-- ==== Sys2Proof/Word.lean ====
section
/-! DEFINITION. The word types of the niche line and of the settings: bytes, 16-bit and 32-bit words. -/

namespace Sys2Proof

/-- One character of the niche line, and one byte of a payload. -/
abbrev Byte := BitVec 8

/-- A parameter value as the niche line carries it (R167), and the CRC of a frame (R156). -/
abbrev Half := BitVec 16

/-- The time base of the report queue: 32 bits wide, and it wraps (R169). -/
abbrev Stamp := BitVec 32

end Sys2Proof
end

