-- ==== Sys2Proof/Syntax.lean ====
section
/-! DEFINITION. The commands: one constructor of `Instr` for each row of spec/opcode_table.json, and the types of
their operands. The table gives its rows no bits; what each row carries is taken from the rule it names. -/

namespace Sys2Proof

/-- The six channel kinds (R1). -/
inductive ChannelKind where
  | co | no2 | opacity | dpress | airvel | generic
  deriving DecidableEq, Repr, Inhabited

/-- The two directions of a jet fan. -/
inductive Dir where
  | fwd | rev
  deriving DecidableEq, Repr, Inhabited

/-- The two directions of a door motor, and of a travel (section 6.2). -/
inductive DoorDir where
  | toOpen | toClose
  deriving DecidableEq, Repr, Inhabited

/-- The two faces of a door, each with its escape button (R105). -/
inductive EscapeSide where
  | tunnel | passage
  deriving DecidableEq, Repr

/-- What one change of the encoder pair A, B shows (R95): an edge in the open or in the close direction, or a change
of both inputs at once, which shows no direction. -/
inductive QuadEdge where
  | towardOpen | towardClose | bothAtOnce
  deriving DecidableEq, Repr

/-- The two end-stops of a door. -/
inductive EndStop where
  | openStop | closedStop
  deriving DecidableEq, Repr

/-- Why the receiver discards a complete or an over-length frame (R157). -/
inductive FrameFlaw where
  | badCrc | otherStation | overLength
  deriving DecidableEq, Repr

/-- The levels of the eight filtered switch inputs of a door (R95), in the order of the READ_DOOR input byte. -/
structure DoorPins where
  openStop : Bool
  closedStop : Bool
  safetyEdge : Bool
  presence : Bool
  tunnelButton : Bool
  passageButton : Bool
  serviceOpen : Bool
  serviceClose : Bool
  deriving DecidableEq, Repr, Inhabited

/-- The pin levels that a reset finds at its end: the FAULT inputs (R42), the tach inputs (R78), the door inputs (R95)
and the three hardwired lines (R147). -/
structure Pins where
  fault : Vector Bool 4
  tach : Vector Bool 4
  doors : Vector DoorPins 2
  stop : Bool
  escape : Bool
  maint : Bool
  deriving DecidableEq, Repr, Inhabited

/-- The strap pins a power-on reset reads (R155): the five station straps and the two bit-rate straps. -/
structure Straps where
  station : Fin 32
  bitRate : Fin 4
  deriving DecidableEq, Repr, Inhabited

/-- The two ends of the transmission of a reply (R159): its first character goes out, or its last one has. -/
inductive SendPhase where
  | begins | ends
  deriving DecidableEq, Repr

/-- The commands of the TN-460. A request of the niche line carries the destination byte and the payload of the
valid frame that brings it (R156, R158): checks of the length, the unit and every field are part of its meaning. -/
inductive Instr where
  | powerOnReset (straps : Straps) (pins : Pins)
  /-- `pins` are the levels that the reset finds at its end; none asserted where none are named. -/
  | warmReset (pins : Pins := default)
  /-- `current` is the loop current at the instant, in µA. -/
  | sampleInstant (c : Fin 8) (current : Nat)
  | rampInstant (f : Fin 4)
  | startLimitExpiry (f : Fin 4)
  | verifyWindowExpiry (f : Fin 4)
  | faultInputChange (f : Fin 4) (asserted : Bool)
  | coastConditionsMet (f : Fin 4)
  | creditRegeneration (f : Fin 4)
  /-- The pin goes to the level `high` and the input takes `samples` samples of 20 µs of it (R66), beyond those that
  idle steps take; the one that completes the disagreement count is the accepted edge. -/
  | acceptedEdge (f : Fin 4) (high : Bool) (samples : Nat)
  | tachTimeout (f : Fin 4)
  | encoderEdge (d : Fin 2) (edge : QuadEdge)
  | endStopChange (d : Fin 2) (stop : EndStop) (asserted : Bool)
  | safetyEdgeChange (d : Fin 2) (asserted : Bool)
  | presenceChange (d : Fin 2) (asserted : Bool)
  /-- `pressed` false is the button let go, which changes only the level that READ_DOOR shows. -/
  | escapeButtonPress (d : Fin 2) (side : EscapeSide) (pressed : Bool)
  | serviceButtonPress (d : Fin 2) (dir : DoorDir)
  | serviceButtonRelease (d : Fin 2) (dir : DoorDir)
  | settleExpiry (d : Fin 2)
  | travelTimeout (d : Fin 2)
  | holdOpenExpiry (d : Fin 2)
  | reopenExpiry (d : Fin 2)
  | reliefTimeout (d : Fin 2)
  | blindReliefExpiry (d : Fin 2)
  | startDelayExpiry (f : Fin 4)
  | linkTimeout
  | stopAsserted
  | stopReleased
  | escapeAsserted
  | escapeReleased
  | maintAsserted
  | maintReleased
  | rxGapTimeout
  | invalidFrame (flaw : FrameFlaw)
  | unknownKind (dest kind : Byte) (payload : List Byte)
  /-- The transmission ends, unless its beginning is named. -/
  | replySent (phase : SendPhase := .ends)
  | replyCancelled
  | enumStart (dest : Byte) (payload : List Byte)
  | enumProbe (dest : Byte) (payload : List Byte)
  | enumAssign (dest : Byte) (payload : List Byte)
  | enumEnd (dest : Byte) (payload : List Byte)
  | identify (dest : Byte) (payload : List Byte)
  | status (dest : Byte) (payload : List Byte)
  | readChannel (dest : Byte) (payload : List Byte)
  | readFan (dest : Byte) (payload : List Byte)
  | readDoor (dest : Byte) (payload : List Byte)
  | getParam (dest : Byte) (payload : List Byte)
  | setParam (dest : Byte) (payload : List Byte)
  | save (dest : Byte) (payload : List Byte)
  /-- `agrees`: the stored copy, read back, equals the snapshot. -/
  | saveComplete (agrees : Bool)
  | lock (dest : Byte) (payload : List Byte)
  | setActive (dest : Byte) (payload : List Byte)
  | setScenario (dest : Byte) (payload : List Byte)
  | getScenario (dest : Byte) (payload : List Byte)
  | setMode (dest : Byte) (payload : List Byte)
  | fanSet (dest : Byte) (payload : List Byte)
  | fanClear (dest : Byte) (payload : List Byte)
  | resume (dest : Byte) (payload : List Byte)
  | demandFloor (dest : Byte) (payload : List Byte)
  | arm (dest : Byte) (payload : List Byte)
  | disarm (dest : Byte) (payload : List Byte)
  | engage (dest : Byte) (payload : List Byte)
  | engageNow (dest : Byte) (payload : List Byte)
  | doorTravel (dest : Byte) (payload : List Byte)
  | doorAbort (dest : Byte) (payload : List Byte)
  | doorEscape (dest : Byte) (payload : List Byte)
  | poll (dest : Byte) (payload : List Byte)
  | reset (dest : Byte) (payload : List Byte)
  /-- A character with its stop bit: the start byte 0xB6, unless another is named; R157 takes characters of every value in
  RECEIVING. -/
  | startByte (char : Byte := 0xB6)
  | framingError
  deriving DecidableEq, Repr

end Sys2Proof
end

