-- ==== Sys2Proof/Machine/Settings.lean ====
section
/-! DEFINITION. The settings: every parameter of units 0 to 14, the fourteen active flags and the scenario table
(chapter 12), with the factory defaults and the ranges of the parameter tables. -/

namespace Sys2Proof.Machine

/-- Priority mode of the feed arbiter (R82). -/
inductive PriorityMode where
  | fixed | rotating
  deriving DecidableEq, Repr, Inhabited

/-- Lock policy of a door (R109). -/
inductive LockPolicy where
  | lockedWhenClosed | never
  deriving DecidableEq, Repr, Inhabited

/-- Door policy of a scenario entry (R139). -/
inductive DoorPolicy where
  | openHold | unlock | keep
  deriving DecidableEq, Repr, Inhabited

/-- Parameters of unit 0 (section 12.1), in index order. -/
structure ControllerSettings where
  linkTimeout : Nat
  slotCount : Nat
  priority : PriorityMode
  autoResume : Bool
  pressFan : Option (Fin 4)
  enumStation : Nat
  deriving DecidableEq, Repr, Inhabited

/-- Parameters of a channel unit (section 1.7), in index order, and the unit's active flag. -/
structure ChannelSettings where
  kind : ChannelKind
  zero : Nat
  span : Nat
  window : Nat
  faultPersistence : Nat
  t1 : Int
  t2 : Int
  t3 : Int
  hysteresis : Nat
  upPersistence : Nat
  downPersistence : Nat
  substitute : Nat
  contributes : Bool
  active : Bool
  deriving DecidableEq, Repr, Inhabited

/-- Parameters of a fan unit (section 3.9), in index order, and the unit's active flag. -/
structure FanSettings where
  defaultDir : Dir
  speed0 : Nat
  speed1 : Nat
  speed2 : Nat
  speed3 : Nat
  rampUp : Nat
  rampDown : Nat
  minDwell : Nat
  coastLimit : Nat
  pulsesPerRev : Nat
  prescale : Nat
  filterN : Nat
  ratedRpm : Nat
  tolerance : Nat
  verifyWindow : Nat
  startLimit : Nat
  maxCredits : Nat
  creditInterval : Nat
  tripLimit : Nat
  standby : Nat
  boost : Nat
  relief : Nat
  active : Bool
  deriving DecidableEq, Repr, Inhabited

/-- Parameters of a door unit (section 6.10), in index order, and the unit's active flag. -/
structure DoorSettings where
  openPosition : Nat
  creepZone : Nat
  tolerance : Nat
  travelLimit : Nat
  holdOpenTime : Nat
  autoReclose : Bool
  lockPolicy : LockPolicy
  pressureChannel : Option (Fin 8)
  pressureLimit : Nat
  reliefTimeout : Nat
  blindTime : Nat
  retries : Nat
  stepSize : Nat
  active : Bool
  deriving DecidableEq, Repr, Inhabited

/-- A fan entry of a scenario record (R133). -/
structure FanEntry where
  fan : Fin 4
  dir : Dir
  speed : Nat
  delay : Nat
  deriving DecidableEq, Repr, Inhabited

/-- A door entry of a scenario record (R133). -/
structure DoorEntry where
  door : Fin 2
  policy : DoorPolicy
  deriving DecidableEq, Repr, Inhabited

/-- A scenario record: its two lists, in the order written (R133). -/
structure ScenarioRecord where
  fans : List FanEntry
  doors : List DoorEntry
  deriving DecidableEq, Repr, Inhabited

/-- The settings, working or stored (chapter 12). -/
structure Settings where
  controller : ControllerSettings
  channels : Vector ChannelSettings 8
  fans : Vector FanSettings 4
  doors : Vector DoorSettings 2
  scenarios : Vector ScenarioRecord 15
  deriving DecidableEq, Repr, Inhabited

/-- The eight channels, the four fans and the two doors, in unit order. -/
def allChannels : List (Fin 8) := [0, 1, 2, 3, 4, 5, 6, 7]
def allFans : List (Fin 4) := [0, 1, 2, 3]
def allDoors : List (Fin 2) := [0, 1]

/-! ### Factory defaults (the Default columns of the parameter tables) -/

def ControllerSettings.factory : ControllerSettings :=
  { linkTimeout := 10, slotCount := 1, priority := .fixed, autoResume := false, pressFan := none, enumStation := 0 }

def ChannelSettings.factory : ChannelSettings :=
  { kind := .generic, zero := 640, span := 4096, window := 8, faultPersistence := 20, t1 := 32767, t2 := 32767,
    t3 := 32767, hysteresis := 0, upPersistence := 10, downPersistence := 50, substitute := 2, contributes := false,
    active := true }

def FanSettings.factory : FanSettings :=
  { defaultDir := .fwd, speed0 := 0, speed1 := 300, speed2 := 600, speed3 := 1000, rampUp := 50, rampDown := 100,
    minDwell := 10, coastLimit := 90, pulsesPerRev := 2, prescale := 1, filterN := 4, ratedRpm := 1450,
    tolerance := 20, verifyWindow := 10, startLimit := 30, maxCredits := 6, creditInterval := 10, tripLimit := 3,
    standby := 0, boost := 800, relief := 200, active := true }

def DoorSettings.factory : DoorSettings :=
  { openPosition := 4000, creepZone := 300, tolerance := 10, travelLimit := 15, holdOpenTime := 60,
    autoReclose := true, lockPolicy := .lockedWhenClosed, pressureChannel := none, pressureLimit := 50,
    reliefTimeout := 8, blindTime := 3, retries := 3, stepSize := 100, active := true }

/-- A record never written is empty (R133). -/
def ScenarioRecord.empty : ScenarioRecord := { fans := [], doors := [] }

/-- What a loading takes when the check value fails (R178): every default, every flag set, every record empty. -/
def Settings.factory : Settings :=
  { controller := .factory
    channels := Vector.replicate 8 .factory
    fans := Vector.replicate 4 .factory
    doors := Vector.replicate 2 .factory
    scenarios := Vector.replicate 15 .empty }

/-! ### Ranges -/

/-- The gas kinds (R1). -/
def isGas : ChannelKind → Bool
  | .co | .no2 | .opacity => true
  | .dpress | .airvel | .generic => false

/-- The lower bound of a kind's range (R1). -/
def kindLow (k : ChannelKind) : Int := if isGas k then 0 else -32768

/-- The upper bound of every kind's range (R1). -/
def kindHigh : Int := 32767

/-- `x` lies in the inclusive range. -/
def within (lo hi x : Nat) : Bool := lo ≤ x && x ≤ hi

def ControllerSettings.inRange (p : ControllerSettings) : Bool :=
  within 1 60 p.linkTimeout && within 1 2 p.slotCount && within 0 32 p.enumStation

def ChannelSettings.inRange (p : ChannelSettings) : Bool :=
  within 0 4000 p.zero && within 0 65535 p.span && within 1 64 p.window && within 1 255 p.faultPersistence &&
  (kindLow p.kind ≤ p.t1 && p.t1 ≤ p.t2 && p.t2 ≤ p.t3 && p.t3 ≤ kindHigh) &&
  within 0 32767 p.hysteresis && within 1 255 p.upPersistence && within 1 255 p.downPersistence &&
  within 0 3 p.substitute && (!p.contributes || isGas p.kind)

def isDivider (n : Nat) : Bool := n == 1 || n == 2 || n == 4 || n == 8

def FanSettings.inRange (p : FanSettings) : Bool :=
  within 0 1000 p.speed0 && within 0 1000 p.speed1 && within 0 1000 p.speed2 && within 0 1000 p.speed3 &&
  within 1 1000 p.rampUp && within 1 1000 p.rampDown && within 2 60 p.minDwell && within 10 600 p.coastLimit &&
  within 0 16 p.pulsesPerRev && isDivider p.prescale && isDivider p.filterN && within 100 9999 p.ratedRpm &&
  within 5 50 p.tolerance && within 2 60 p.verifyWindow && within 5 60 p.startLimit && within 1 12 p.maxCredits &&
  within 1 60 p.creditInterval && within 1 10 p.tripLimit && within 0 1000 p.standby && within 0 1000 p.boost &&
  within 0 1000 p.relief

def DoorSettings.inRange (p : DoorSettings) : Bool :=
  within 100 30000 p.openPosition && within 0 2000 p.creepZone && within 1 100 p.tolerance &&
  within 2 60 p.travelLimit && within 5 600 p.holdOpenTime && within 10 500 p.pressureLimit &&
  within 1 30 p.reliefTimeout && within 0 10 p.blindTime && within 0 5 p.retries && within 1 1000 p.stepSize

/-- R133: at most four fan and two door entries, none twice, speeds 0..1000, delays 0..255 s. -/
def ScenarioRecord.inRange (r : ScenarioRecord) : Bool :=
  (r.fans.map (·.fan)).Nodup && (r.doors.map (·.door)).Nodup &&
  r.fans.all fun e => within 0 1000 e.speed && within 0 255 e.delay

/-- Every value lies in the range its parameter table gives it, and the relations of R18 hold. -/
def Settings.inRange (p : Settings) : Bool :=
  p.controller.inRange && (allChannels.all fun c => p.channels[c].inRange) &&
  (allFans.all fun f => p.fans[f].inRange) && (allDoors.all fun d => p.doors[d].inRange) &&
  p.scenarios.toList.all ScenarioRecord.inRange

end Sys2Proof.Machine
end

