-- ==== Sys2Proof/Config.lean ====
section
/-! DEFINITION. What is fixed for one part, and the free values: constants with no body, so that nothing can be
proved of what the spec leaves open. -/

namespace Sys2Proof.Config

/-- The 48-bit factory serial of this part (R164). The spec gives no part's serial: log entry 8. -/
opaque serial : BitVec 48

/-- The choices the spec leaves to the part, one for each value of the model's counter `State.choice`: the order in
which the fans, doors or blocks of one event are taken, and which of two outcomes is taken first. Log entry 5. -/
opaque order : Nat → Nat

/-- What a store write that failed or was cut short leaves in the stored copy (R175). Log entry 10. -/
opaque tornSettings : Nat → Machine.Settings

/-- How the 16-bit check value of such a copy differs from the one its contents call for: 0 where it holds. Log
entry 10. -/
opaque tornCheck : Nat → BitVec 16

/-- Whether a write that a warm reset runs to its end reads back as the snapshot (R175). Log entry 11. -/
opaque writeAgrees : Nat → Bool

/-- The pin levels at the end of a warm reset that the end or the cancellation of the RESET's reply brings, where no
command carries them (R42, R78, R95, R147). Log entry 21. -/
opaque pinsAtReset : Nat → Pins

/-- Product code and hardware revision code of the part (R164). -/
def productCode : BitVec 16 := 0x0460
def revision : BitVec 8 := 0x01

/-- Records the report queue holds (R170). -/
def queueDepth : Nat := 32

/-- Longest payload of a frame (R156). -/
def maxPayload : Nat := 96

end Sys2Proof.Config
end

