-- ==== Sys2Proof/Machine/Bytes.lean ====
section
/-! DEFINITION. Byte order and frames: big-endian fields (10.7), the CRC-16 and the frame of R156, and the reading of
fields from a payload. -/

namespace Sys2Proof.Machine

/-- One byte from a number below 256. -/
def byteOf (n : Nat) : Byte := BitVec.ofNat 8 n

/-- A flag as a bit of a flag byte or as a byte of its own. -/
def bitOf (b : Bool) : Nat := if b then 1 else 0

/-- The `n` bytes of a number, most significant first. -/
def beBytes : Nat → Nat → List Byte
  | 0, _ => []
  | n + 1, v => beBytes n (v / 256) ++ [byteOf v]

/-- The number that bytes spell, most significant first. -/
def ofBytes (bs : List Byte) : Nat := bs.foldl (fun v b => v * 256 + b.toNat) 0

/-- A 16-bit field, most significant byte first. -/
def be16 (n : Nat) : List Byte := beBytes 2 n

/-- A signed 16-bit field, two's complement. -/
def beInt (i : Int) : List Byte := be16 (BitVec.ofInt 16 i).toNat

/-- One bit of the CRC: generator x^16 + x^12 + x^5 + 1, most significant bit first (R156). -/
def crcBit (c : Half) : Half := if c.msb then (c <<< 1) ^^^ 0x1021 else c <<< 1

/-- One byte of the CRC (R156). -/
def crcByte (c : Half) (b : Byte) : Half :=
  crcBit (crcBit (crcBit (crcBit (crcBit (crcBit (crcBit (crcBit (c ^^^ (b.zeroExtend 16 <<< 8)))))))))

/-- The CRC over the bytes given, from 0xFFFF, with no reflection and no final inversion (R156). -/
def crc16 (bs : List Byte) : Half := bs.foldl crcByte 0xFFFF

/-- The start byte of every frame (R156). -/
def startMark : Byte := 0xB6

/-- The broadcast destination. -/
def broadcast : Byte := 0xFF

/-- The source byte of a part without a station (10.7). -/
def noStation : Byte := 0xFE

/-- The message kinds of the catalogue (10.7). -/
def catalogue : List Byte :=
  [0x01, 0x02, 0x03, 0x04, 0x10, 0x11, 0x12, 0x13, 0x14, 0x20, 0x21, 0x22, 0x23, 0x24, 0x25, 0x26, 0x30, 0x31, 0x32,
   0x33, 0x34, 0x40, 0x41, 0x42, 0x43, 0x50, 0x51, 0x52, 0x60, 0x70]

/-- A whole frame: start byte, header, payload, CRC high byte first (R156). -/
def frameBytes (dest source kind : Byte) (payload : List Byte) : List Byte :=
  let body := dest :: source :: kind :: byteOf payload.length :: payload
  startMark :: body ++ be16 (crc16 body).toNat

end Sys2Proof.Machine
end

