-- ==== Sys2Proof/WellFormed.lean ====
section
/-! DEFINITION. Which commands are well formed: the relations between operands that their types do not hold. -/

namespace Sys2Proof

/-- The payload of a valid frame holds at most 96 bytes (R156, R157). -/
def payloadOk (payload : List Byte) : Bool := payload.length ≤ Config.maxPayload

/-- A kind outside the catalogue (R158). -/
def unknownKindOk (kind : Byte) : Bool := !Machine.catalogue.contains kind

/-- The input takes at least one sample of the level (R66). -/
def samplesOk (samples : Nat) : Bool := 1 ≤ samples

/-- A well-formed command. -/
def Instr.wellFormed : Instr → Bool
  | .powerOnReset _ _ => true
  | .warmReset _ => true
  | .sampleInstant _ _ => true
  | .rampInstant _ => true
  | .startLimitExpiry _ => true
  | .verifyWindowExpiry _ => true
  | .faultInputChange _ _ => true
  | .coastConditionsMet _ => true
  | .creditRegeneration _ => true
  | .acceptedEdge _ _ samples => samplesOk samples
  | .tachTimeout _ => true
  | .encoderEdge _ _ => true
  | .endStopChange _ _ _ => true
  | .safetyEdgeChange _ _ => true
  | .presenceChange _ _ => true
  | .escapeButtonPress _ _ _ => true
  | .serviceButtonPress _ _ => true
  | .serviceButtonRelease _ _ => true
  | .settleExpiry _ => true
  | .travelTimeout _ => true
  | .holdOpenExpiry _ => true
  | .reopenExpiry _ => true
  | .reliefTimeout _ => true
  | .blindReliefExpiry _ => true
  | .startDelayExpiry _ => true
  | .linkTimeout => true
  | .stopAsserted => true
  | .stopReleased => true
  | .escapeAsserted => true
  | .escapeReleased => true
  | .maintAsserted => true
  | .maintReleased => true
  | .rxGapTimeout => true
  | .invalidFrame _ => true
  | .unknownKind _ kind payload => unknownKindOk kind && payloadOk payload
  | .replySent _ => true
  | .replyCancelled => true
  | .enumStart _ payload => payloadOk payload
  | .enumProbe _ payload => payloadOk payload
  | .enumAssign _ payload => payloadOk payload
  | .enumEnd _ payload => payloadOk payload
  | .identify _ payload => payloadOk payload
  | .status _ payload => payloadOk payload
  | .readChannel _ payload => payloadOk payload
  | .readFan _ payload => payloadOk payload
  | .readDoor _ payload => payloadOk payload
  | .getParam _ payload => payloadOk payload
  | .setParam _ payload => payloadOk payload
  | .save _ payload => payloadOk payload
  | .saveComplete _ => true
  | .lock _ payload => payloadOk payload
  | .setActive _ payload => payloadOk payload
  | .setScenario _ payload => payloadOk payload
  | .getScenario _ payload => payloadOk payload
  | .setMode _ payload => payloadOk payload
  | .fanSet _ payload => payloadOk payload
  | .fanClear _ payload => payloadOk payload
  | .resume _ payload => payloadOk payload
  | .demandFloor _ payload => payloadOk payload
  | .arm _ payload => payloadOk payload
  | .disarm _ payload => payloadOk payload
  | .engage _ payload => payloadOk payload
  | .engageNow _ payload => payloadOk payload
  | .doorTravel _ payload => payloadOk payload
  | .doorAbort _ payload => payloadOk payload
  | .doorEscape _ payload => payloadOk payload
  | .poll _ payload => payloadOk payload
  | .reset _ payload => payloadOk payload
  | .startByte _ => true
  | .framingError => true

end Sys2Proof
end

