-- ==== Sys2Proof/Decode.lean ====
section
/-! DEFINITION. From bits to commands. The table gives no row any bits, so a table word spells no command; the requests
have their encoding in the frames of the niche line (R156, 10.7), read and written here. -/

namespace Sys2Proof

/-- The command that a table word spells: none, since no row of the table has bits. -/
def decodeTableWord (_nbits _w : Nat) : Option Instr := none

/-- The request of a kind of the catalogue; any other kind is an unknown one (10.7, R158). -/
def requestOf (kind dest : Byte) (payload : List Byte) : Instr :=
  match kind.toNat with
  | 0x01 => .enumStart dest payload
  | 0x02 => .enumProbe dest payload
  | 0x03 => .enumAssign dest payload
  | 0x04 => .enumEnd dest payload
  | 0x10 => .identify dest payload
  | 0x11 => .status dest payload
  | 0x12 => .readChannel dest payload
  | 0x13 => .readFan dest payload
  | 0x14 => .readDoor dest payload
  | 0x20 => .getParam dest payload
  | 0x21 => .setParam dest payload
  | 0x22 => .save dest payload
  | 0x23 => .lock dest payload
  | 0x24 => .setActive dest payload
  | 0x25 => .setScenario dest payload
  | 0x26 => .getScenario dest payload
  | 0x30 => .setMode dest payload
  | 0x31 => .fanSet dest payload
  | 0x32 => .fanClear dest payload
  | 0x33 => .resume dest payload
  | 0x34 => .demandFloor dest payload
  | 0x40 => .arm dest payload
  | 0x41 => .disarm dest payload
  | 0x42 => .engage dest payload
  | 0x43 => .engageNow dest payload
  | 0x50 => .doorTravel dest payload
  | 0x51 => .doorAbort dest payload
  | 0x52 => .doorEscape dest payload
  | 0x60 => .poll dest payload
  | 0x70 => .reset dest payload
  | _ => .unknownKind dest kind payload

/-- What a frame's characters bring, once the frame is whole or its length byte is over 96: a request, or a frame that is
discarded (R157); `none` where the characters are no whole frame. -/
def frameCommand (bytes : List Byte) : Option Instr :=
  match bytes with
  | mark :: dest :: source :: kind :: len :: rest =>
    if mark ≠ Machine.startMark then none
    else if Config.maxPayload < len.toNat then some (.invalidFrame .overLength)
    else if rest.length ≠ len.toNat + 2 then none
    else
      let payload := rest.take len.toNat
      let crc := Machine.ofBytes (rest.drop len.toNat)
      if crc = (Machine.crc16 (dest :: source :: kind :: len :: payload)).toNat then some (requestOf kind dest payload)
      else some (.invalidFrame .badCrc)
  | _ => none

/-- The kind, the destination and the payload of a request; the events of the part have no frame. -/
def requestParts : Instr → Option (Byte × Byte × List Byte)
  | .unknownKind dest kind payload => some (kind, dest, payload)
  | .enumStart dest payload => some (0x01, dest, payload)
  | .enumProbe dest payload => some (0x02, dest, payload)
  | .enumAssign dest payload => some (0x03, dest, payload)
  | .enumEnd dest payload => some (0x04, dest, payload)
  | .identify dest payload => some (0x10, dest, payload)
  | .status dest payload => some (0x11, dest, payload)
  | .readChannel dest payload => some (0x12, dest, payload)
  | .readFan dest payload => some (0x13, dest, payload)
  | .readDoor dest payload => some (0x14, dest, payload)
  | .getParam dest payload => some (0x20, dest, payload)
  | .setParam dest payload => some (0x21, dest, payload)
  | .save dest payload => some (0x22, dest, payload)
  | .lock dest payload => some (0x23, dest, payload)
  | .setActive dest payload => some (0x24, dest, payload)
  | .setScenario dest payload => some (0x25, dest, payload)
  | .getScenario dest payload => some (0x26, dest, payload)
  | .setMode dest payload => some (0x30, dest, payload)
  | .fanSet dest payload => some (0x31, dest, payload)
  | .fanClear dest payload => some (0x32, dest, payload)
  | .resume dest payload => some (0x33, dest, payload)
  | .demandFloor dest payload => some (0x34, dest, payload)
  | .arm dest payload => some (0x40, dest, payload)
  | .disarm dest payload => some (0x41, dest, payload)
  | .engage dest payload => some (0x42, dest, payload)
  | .engageNow dest payload => some (0x43, dest, payload)
  | .doorTravel dest payload => some (0x50, dest, payload)
  | .doorAbort dest payload => some (0x51, dest, payload)
  | .doorEscape dest payload => some (0x52, dest, payload)
  | .poll dest payload => some (0x60, dest, payload)
  | .reset dest payload => some (0x70, dest, payload)
  | .powerOnReset _ _ => none
  | .warmReset _ => none
  | .sampleInstant _ _ => none
  | .rampInstant _ => none
  | .startLimitExpiry _ => none
  | .verifyWindowExpiry _ => none
  | .faultInputChange _ _ => none
  | .coastConditionsMet _ => none
  | .creditRegeneration _ => none
  | .acceptedEdge _ _ _ => none
  | .tachTimeout _ => none
  | .encoderEdge _ _ => none
  | .endStopChange _ _ _ => none
  | .safetyEdgeChange _ _ => none
  | .presenceChange _ _ => none
  | .escapeButtonPress _ _ _ => none
  | .serviceButtonPress _ _ => none
  | .serviceButtonRelease _ _ => none
  | .settleExpiry _ => none
  | .travelTimeout _ => none
  | .holdOpenExpiry _ => none
  | .reopenExpiry _ => none
  | .reliefTimeout _ => none
  | .blindReliefExpiry _ => none
  | .startDelayExpiry _ => none
  | .linkTimeout => none
  | .stopAsserted => none
  | .stopReleased => none
  | .escapeAsserted => none
  | .escapeReleased => none
  | .maintAsserted => none
  | .maintReleased => none
  | .rxGapTimeout => none
  | .invalidFrame _ => none
  | .replySent _ => none
  | .replyCancelled => none
  | .saveComplete _ => none
  | .startByte _ => none
  | .framingError => none

/-- The frame that brings a request, from a source byte (R156). -/
def encodeFrame (source : Byte) (i : Instr) : Option (List Byte) :=
  (requestParts i).map fun p => Machine.frameBytes p.2.1 source p.1 p.2.2

end Sys2Proof
end

