-- ==== Sys2Proof/Machine/State.lean ====
section
/-! DEFINITION. The state of the part: every item of the blocks' state tables (00_scope.md and the tables that open the
chapters), plain data throughout, and the state right after a power-on reset. Times are held in ms unless a field says
otherwise; a timer that the spec can stop is an `Option`, `none` while it is stopped. -/

namespace Sys2Proof.Machine

/-! ### Measurement channels (chapter 1) and the demand unit (chapter 2) -/

inductive ChannelState where
  | inactive | warming | valid | fault
  deriving DecidableEq, Repr, Inhabited

/-- The configuration in force: the last zero, span, kind and W the channel applied. -/
structure ChannelConfig where
  kind : ChannelKind
  zero : Nat
  span : Nat
  window : Nat
  deriving DecidableEq, Repr, Inhabited

/-- One measurement channel, with the alarm level and the persistence counts the demand unit keeps for it. A window slot
that holds no value reads 0 (log entry 12). -/
structure Channel where
  state : ChannelState
  inForce : ChannelConfig
  rawCode : Nat
  calibrated : Int
  slots : List Int
  writeIndex : Nat
  fill : Nat
  sum : Int
  average : Option Int
  limited : Bool
  faultRun : Nat
  level : Nat
  upCount : Nat
  downCount : Nat
  deriving DecidableEq, Repr, Inhabited

structure Demand where
  stage : Nat
  floor : Nat
  deriving DecidableEq, Repr, Inhabited

/-! ### Fan channels (chapters 3 to 5) -/

inductive FanState where
  | off | awaitGrant | starting | running | stopping | coasting | tripped | lockedOut | inactive
  deriving DecidableEq, Repr, Inhabited

/-- A target or a setpoint: direction and speed in ‰ of the rated speed. -/
structure Target where
  dir : Dir
  speed : Nat
  deriving DecidableEq, Repr, Inhabited

inductive TripCause where
  | noTrip | driveFault | stall | startTimeout
  deriving DecidableEq, Repr, Inhabited

/-- A tach input (chapter 4). `level` is the accepted level and `pin` the level at which the pin now stands, which the
input samples; `periodAge` is the time in µs since the moment the period start names; `lastPeriod` and `timeout` are
in µs. -/
structure Tach where
  prescale : Nat
  filterN : Nat
  pulses : Nat
  pin : Bool
  level : Bool
  disagreement : Nat
  prescaleCount : Nat
  periodAge : Option Nat
  lastPeriod : Option Nat
  rpm : Nat
  timeout : Option Nat
  deriving DecidableEq, Repr, Inhabited

/-- A fan channel. `modeTarget` is the target its mode gives it before boost and cap (R43 to R46, R126); for a fan
that is not the pressurisation fan it is the target itself. The direction outputs and the PWM duty follow from
`state`, `latched` and `reference` (R40). `limitUntested` says that the fan has been re-granted with no advance of its
start-phase timer and no write of its start limit since, the two moments at which the limit is tested (R74, R85). -/
structure Fan where
  state : FanState
  latched : Dir
  target : Target
  modeTarget : Target
  setpoint : Option Target
  reference : Nat
  offTime : Nat
  standstill : Nat
  startTimer : Option Nat
  limitUntested : Bool
  verifyTimer : Option Nat
  stallNoted : Bool
  credits : Nat
  creditTimer : Option Nat
  tripCount : Nat
  lastTrip : TripCause
  lockoutMemory : Bool
  creditWait : Bool
  suspended : Bool
  held : Bool
  faultInput : Bool
  tach : Tach
  deriving DecidableEq, Repr, Inhabited

/-- The feed arbiter. `holders` stands in the order of the present grants, the most recent last (R79); `waiting` says
for each fan whether it is on the waiting list, which records no order (R80); the slot count, the priority mode and
the pressurisation fan are working settings. -/
structure Arbiter where
  holders : List (Fin 4)
  waiting : Vector Bool 4
  suspended : List (Fin 4)
  rotation : Option (Fin 4)
  urgency : Bool
  deriving DecidableEq, Repr

/-! ### Escape doors (chapters 6 and 7) -/

inductive DoorState where
  | closedLocked | closed | unlocking | relieving | opening | isOpen | closing | halted | unhomed | fault | inactive
  deriving DecidableEq, Repr, Inhabited

inductive TravelMode where
  | full | hold | step
  deriving DecidableEq, Repr, Inhabited

inductive Reason where
  | escape | autoReclose | supervisory | service | homing
  deriving DecidableEq, Repr, Inhabited

/-- A travel record (section 6.2). `given` is the target a DOOR_TRAVEL gave; `target` is absent until the travel
becomes current (R96). -/
structure Travel where
  dir : DoorDir
  mode : TravelMode
  given : Option Nat
  target : Option Int
  reason : Reason
  forced : Bool
  deriving DecidableEq, Repr, Inhabited

/-- The five sources of escape requests (R105). -/
inductive EscapeSource where
  | tunnelButton | passageButton | supervisory | escapeLine | scenario
  deriving DecidableEq, Repr, Inhabited

/-- The escape-request set of a door, one flag for each source. -/
structure EscapeSet where
  tunnelButton : Bool
  passageButton : Bool
  supervisory : Bool
  escapeLine : Bool
  scenario : Bool
  deriving DecidableEq, Repr, Inhabited

/-- A door channel. The motor and LOCK outputs follow from `state` (R94); `creep` is the CREEP output. While the door
is RELIEVING, `observedUsable` says whether the last observation of the relief channel found a usable average. -/
structure Door where
  state : DoorState
  position : Int
  homed : Bool
  travel : Option Travel
  slot : Option Travel
  escape : EscapeSet
  settle : Option Nat
  travelTimer : Option Nat
  holdOpen : Option Nat
  reopen : Option Nat
  retry : Nat
  recloseSuspended : Bool
  unlockPolicy : Bool
  creep : Bool
  reliefTimer : Option Nat
  reliefChannel : Option (Fin 8)
  lastObserved : Option Int
  observedUsable : Bool
  inputs : DoorPins
  deriving DecidableEq, Repr, Inhabited

/-! ### Mode controller (chapter 8) and hardwired lines (chapter 9) -/

inductive Mode where
  | auto | manual | incident
  deriving DecidableEq, Repr, Inhabited

/-- The start delay timer of a fan: none (no entry, or cancelled), running for so many ms, or expired (R137). -/
inductive Delay where
  | absent
  | running (ms : Nat)
  | expired
  deriving DecidableEq, Repr, Inhabited

structure Armed where
  scenario : Nat
  tag : Nat
  deriving DecidableEq, Repr, Inhabited

structure ModeControl where
  mode : Mode
  engaged : Nat
  record : Option ScenarioRecord
  delays : Vector Delay 4
  frozen : Option (Vector Target 4)
  armed : Option Armed
  lineLost : Bool
  linkTimer : Option Nat
  deriving DecidableEq, Repr

/-- A hardwired line: its filtered state, and the time its pin has held the other level (R147). -/
structure HardLine where
  asserted : Bool
  settle : Option Nat
  deriving DecidableEq, Repr, Inhabited

inductive LineName where
  | stop | escape | maint
  deriving DecidableEq, Repr, Inhabited

/-! ### Line interface (chapter 10) -/

inductive StationSource where
  | strapped | enumerated | unassigned
  deriving DecidableEq, Repr, Inhabited

inductive EnumState where
  | idle | isolating
  deriving DecidableEq, Repr, Inhabited

/-- The receiver, with the bytes received so far. -/
inductive Receiver where
  | hunt
  | receiving (bytes : List Byte)
  deriving DecidableEq, Repr, Inhabited

/-- The four bit rates, in bit/s (R155). -/
inductive BitRate where
  | b9600 | b19200 | b38400 | b115200
  deriving DecidableEq, Repr, Inhabited

/-- The line interface. `rxGap` is the time in ms since the last character taken in RECEIVING (R157); `reply` is the
pending reply frame, all its bytes; `transmitting` says that its first character has gone out and its last one has not,
the time for which the driver is enabled (R159); `resetRequested` says that an accepted RESET waits for that reply
(R166); `sent` is the model's own record of the frame last sent. -/
structure LineInterface where
  bitRate : BitRate
  strap : Nat
  serial : BitVec 48
  station : Option Nat
  source : StationSource
  enumState : EnumState
  receiver : Receiver
  rxGap : Option Nat
  reply : Option (List Byte)
  transmitting : Bool
  resetRequested : Bool
  sent : Option (List Byte)
  deriving DecidableEq, Repr

/-! ### Report queue (chapter 11) -/

inductive FanCause where
  | target | grant | startDone | stall | startTimeout | driveFault | stallIgnored | suspended | stopLine | lockout | clear
  deriving DecidableEq, Repr, Inhabited

inductive LoopCause where
  | loopLow | loopHigh
  deriving DecidableEq, Repr, Inhabited

inductive Termination where
  | targetReached | endStop | released | obstructed | timedOut | aborted
  deriving DecidableEq, Repr, Inhabited

inductive ReliefOutcome where
  | pressureOk | timeout | blind
  deriving DecidableEq, Repr, Inhabited

inductive ModeCause where
  | setMode | maintReleased | lineLost | engage | engageNow
  deriving DecidableEq, Repr, Inhabited

/-- The fifteen report kinds, each with its data. -/
inductive ReportData where
  | powerUp (warm storeValid : Bool)
  | level (level : Nat) (average : Option Int)
  | channelFault (cause : LoopCause)
  | channelRecovered
  | demand (stage floor : Nat)
  | fanState (state : FanState) (cause : FanCause)
  | doorRequest (source : EscapeSource)
  | doorDone (dir : DoorDir) (termination : Termination) (position : Int) (forced : Bool)
  | relief (outcome : ReliefOutcome) (timer : Nat) (average : Option Int)
  | nextReplaced (dir : DoorDir) (reason : Reason)
  | line (line : LineName) (asserted : Bool)
  | mode (mode : Mode) (scenario : Nat) (cause : ModeCause) (tag : Nat)
  | engageMissed (received armedTag armedScenario : Nat)
  | link (restored : Bool)
  | store (failed : Bool)
  deriving DecidableEq, Repr

/-- A report record: time stamp, unit, and kind with data. -/
structure Report where
  stamp : Stamp
  unit : Nat
  data : ReportData
  deriving DecidableEq, Repr

structure ReportQueue where
  records : List Report
  overflow : Bool
  timeBase : Stamp
  deriving DecidableEq, Repr

/-! ### Settings store (chapter 12) -/

/-- The settings store. `checkError` is the stored 16-bit check value, given as its difference from the value the stored
copy calls for, so that 0 means it holds (log entry 10). Store-busy is set exactly while `snapshot` is present. -/
structure Store where
  working : Settings
  stored : Settings
  checkError : BitVec 16
  lockLevel : Nat
  snapshot : Option Settings
  deriving DecidableEq, Repr

/-! ### The part -/

/-- The whole part. `choice` counts the free choices taken so far and `pending` is the queue of commands that wait:
both are the model's own. -/
structure State where
  channels : Vector Channel 8
  demand : Demand
  fans : Vector Fan 4
  arbiter : Arbiter
  doors : Vector Door 2
  modes : ModeControl
  stop : HardLine
  escape : HardLine
  maint : HardLine
  line : LineInterface
  reports : ReportQueue
  store : Store
  choice : Nat
  pending : List Instr
  deriving DecidableEq, Repr

/-- No command of this part stops with a fault: the type has no constructor. -/
inductive Fault where
  deriving DecidableEq, Repr

/-- Why a command is refused. -/
inductive Refusal where
  /-- Raised by `exec` for a command that has no meaning yet, and by nothing else. Safe: nothing is claimed of it. -/
  | notModelled (mnemonic : String)
  deriving DecidableEq, Repr

/-! ### The state after reset -/

/-- A channel right after a power-on reset under factory defaults (R22, R39). -/
def Channel.atReset : Channel :=
  { state := .warming, inForce := { kind := .generic, zero := 640, span := 4096, window := 8 }, rawCode := 0,
    calibrated := 0, slots := List.replicate 8 0, writeIndex := 0, fill := 0, sum := 0, average := none,
    limited := false, faultRun := 0, level := 0, upCount := 0, downCount := 0 }

/-- A tach input right after a power-on reset under factory defaults (R78). -/
def Tach.atReset : Tach :=
  { prescale := 1, filterN := 4, pulses := 2, pin := false, level := false, disagreement := 0, prescaleCount := 0,
    periodAge := none, lastPeriod := none, rpm := 0, timeout := none }

/-- A fan right after a power-on reset under factory defaults (R64, R92). -/
def Fan.atReset : Fan :=
  { state := .coasting, latched := .fwd, target := ⟨.fwd, 0⟩, modeTarget := ⟨.fwd, 0⟩, setpoint := none, reference := 0,
    offTime := 0, standstill := 0, startTimer := none, limitUntested := false, verifyTimer := none, stallNoted := false,
    credits := 6,
    creditTimer := none, tripCount := 0, lastTrip := .noTrip, lockoutMemory := false, creditWait := false,
    suspended := false, held := false, faultInput := false, tach := .atReset }

/-- The empty escape-request set. -/
def EscapeSet.empty : EscapeSet :=
  { tunnelButton := false, passageButton := false, supervisory := false, escapeLine := false, scenario := false }

/-- Every switch input of a door clear. -/
def doorPinsClear : DoorPins :=
  { openStop := false, closedStop := false, safetyEdge := false, presence := false, tunnelButton := false,
    passageButton := false, serviceOpen := false, serviceClose := false }

/-- A door right after a power-on reset with its closed end-stop clear (R117). -/
def Door.atReset : Door :=
  { state := .unhomed, position := 0, homed := false, travel := none, slot := none, escape := .empty, settle := none,
    travelTimer := none, holdOpen := none, reopen := none, retry := 3, recloseSuspended := false,
    unlockPolicy := false, creep := false, reliefTimer := none, reliefChannel := none, lastObserved := none,
    observedUsable := false, inputs := doorPinsClear }

/-- A hardwired line released, its settle time stopped (R147). -/
def HardLine.clear : HardLine := { asserted := false, settle := none }

/-- The part right after a power-on reset, with station straps 1, every other input pin clear and a store that was
never saved (log entries 7, 8 and 9). Everything else is what R22, R39, R64, R78, R92, R117, R129, R146, R147, R155,
R172 and R178 state. -/
def State.reset : State :=
  { channels := Vector.replicate 8 .atReset
    demand := { stage := 0, floor := 0 }
    fans := Vector.replicate 4 .atReset
    arbiter := { holders := [], waiting := Vector.replicate 4 false, suspended := [], rotation := none,
                 urgency := false }
    doors := Vector.replicate 2 .atReset
    modes := { mode := .auto, engaged := 0, record := none, delays := Vector.replicate 4 .absent, frozen := none,
               armed := none, lineLost := false, linkTimer := some 0 }
    stop := .clear
    escape := .clear
    maint := .clear
    line := { bitRate := .b9600, strap := 1, serial := Config.serial, station := some 1, source := .strapped,
              enumState := .idle, receiver := .hunt, rxGap := none, reply := none, transmitting := false,
              resetRequested := false, sent := none }
    reports := { records := [{ stamp := 0, unit := 0, data := .powerUp false false }], overflow := false,
                 timeBase := 0 }
    store := { working := .factory, stored := .factory, checkError := 1, lockLevel := 0, snapshot := none }
    choice := 0
    pending := [] }

end Sys2Proof.Machine
end

