-- ==== Sys2Proof/Machine/Ops.lean ====
section
/-! DEFINITION. The shared operations over the state: reading and updating one channel, fan or door, the settings in
force, queuing a report (R169, R170), and the free order in which the members of one event are taken. -/

namespace Sys2Proof.Machine

/-- What a command answers. -/
abbrev Answer := Host.Outcome State Fault Refusal

/-! ### One block of the part -/

def State.channel (s : State) (c : Fin 8) : Channel := s.channels[c]
def State.fan (s : State) (f : Fin 4) : Fan := s.fans[f]
def State.door (s : State) (d : Fin 2) : Door := s.doors[d]

def State.withChannel (s : State) (c : Fin 8) (x : Channel) : State := { s with channels := s.channels.set c x }
def State.withFan (s : State) (f : Fin 4) (x : Fan) : State := { s with fans := s.fans.set f x }
def State.withDoor (s : State) (d : Fin 2) (x : Door) : State := { s with doors := s.doors.set d x }

def State.settings (s : State) : Settings := s.store.working
def State.ctl (s : State) : ControllerSettings := s.store.working.controller
def State.channelCfg (s : State) (c : Fin 8) : ChannelSettings := s.store.working.channels[c]
def State.fanCfg (s : State) (f : Fin 4) : FanSettings := s.store.working.fans[f]
def State.doorCfg (s : State) (d : Fin 2) : DoorSettings := s.store.working.doors[d]

def State.withSettings (s : State) (p : Settings) : State := { s with store := { s.store with working := p } }
def State.withChannelCfg (s : State) (c : Fin 8) (p : ChannelSettings) : State :=
  s.withSettings { s.settings with channels := s.settings.channels.set c p }
def State.withFanCfg (s : State) (f : Fin 4) (p : FanSettings) : State :=
  s.withSettings { s.settings with fans := s.settings.fans.set f p }
def State.withDoorCfg (s : State) (d : Fin 2) (p : DoorSettings) : State :=
  s.withSettings { s.settings with doors := s.settings.doors.set d p }
def State.withCtl (s : State) (p : ControllerSettings) : State := s.withSettings { s.settings with controller := p }

def State.withArbiter (s : State) (a : Arbiter) : State := { s with arbiter := a }
def State.withModes (s : State) (m : ModeControl) : State := { s with modes := m }
def State.withLine (s : State) (l : LineInterface) : State := { s with line := l }
def State.withDemand (s : State) (d : Demand) : State := { s with demand := d }
def State.withStore (s : State) (t : Store) : State := { s with store := t }
def State.withReports (s : State) (q : ReportQueue) : State := { s with reports := q }

/-- The controller is in INCIDENT mode. -/
def State.incident (s : State) : Bool := s.modes.mode == .incident

/-- Store-busy (chapter 12): a SAVE write is under way. -/
def Store.busy (t : Store) : Bool := t.snapshot.isSome

/-- The check value of the stored settings holds. -/
def Store.storedValid (t : Store) : Bool := t.checkError == 0

/-! ### Unit numbers (00_scope.md) -/

def channelUnit (c : Fin 8) : Nat := c.val + 1
def fanUnit (f : Fin 4) : Nat := f.val + 9
def doorUnit (d : Fin 2) : Nat := d.val + 13

/-! ### Reports -/

/-- A report arriving at the queue: stamped with the time base, placed last, or discarded with the overflow marker
set when 32 records are held (R169, R170). -/
def ReportQueue.arrive (q : ReportQueue) (unit : Nat) (data : ReportData) : ReportQueue :=
  if q.records.length < Config.queueDepth then
    { q with records := q.records ++ [{ stamp := q.timeBase, unit := unit, data := data }] }
  else { q with overflow := true }

/-- Queue a report. -/
def report (unit : Nat) (data : ReportData) (s : State) : State := s.withReports (s.reports.arrive unit data)

/-! ### Free choices (log entry 5) -/

/-- The arrangement number `k` of a list: every order of its members is the arrangement of some number. -/
def arrange {α : Type} : Nat → List α → List α
  | _, [] => []
  | _, [x] => [x]
  | k, x :: y :: xs => (arrange (k / (xs.length + 2)) (y :: xs)).insertIdx (k % (xs.length + 2)) x

/-- The present free choice. -/
def State.freeChoice (s : State) : Nat := Config.order s.choice

/-- Count one free choice as taken. -/
def State.nextChoice (s : State) : State := { s with choice := s.choice + 1 }

/-- Take the members of one event one at a time, in the order given. -/
def takeEach {α : Type} (order : List α) (act : α → State → State) (s : State) : State :=
  order.foldl (fun s x => act x s) s

/-- Take the members of one event one at a time, in any order: the order is a free choice. -/
def takeInAnyOrder {α : Type} (members : List α) (act : α → State → State) (s : State) : State :=
  takeEach (arrange s.freeChoice members) act s.nextChoice

end Sys2Proof.Machine
end

