-- ==== Sys2Proof/Machine/Flags.lean ====
section
/-! DEFINITION. The outputs that follow from the state, the flags, and the flag bytes of the reply blocks (10.7). -/

namespace Sys2Proof.Machine

/-! ### Fan outputs and permissions -/

/-- The states in which the output of the latched direction is on (R40). -/
def drives : FanState → Bool
  | .starting | .running | .stopping => true
  | .off | .awaitGrant | .coasting | .tripped | .lockedOut | .inactive => false

/-- The FWD output (R40). -/
def Fan.forwardOn (x : Fan) : Bool := drives x.state && x.latched == .fwd

/-- The REV output (R40). -/
def Fan.reverseOn (x : Fan) : Bool := drives x.state && x.latched == .rev

/-- The PWM duty in ‰: the speed reference divided by 10 and rounded down (R40). -/
def Fan.duty (x : Fan) : Nat := x.reference / 10

/-- Starts are permitted: the STOP line is released and the fan's HELD flag is clear (R48). -/
def startsPermitted (s : State) (f : Fin 4) : Bool := !s.stop.asserted && !(s.fan f).held

/-- The fan has a tach: pulses per rev in the working settings is not 0 (R77). -/
def hasTach (s : State) (f : Fin 4) : Bool := (s.fanCfg f).pulsesPerRev != 0

/-! ### Door outputs and states -/

/-- Motor OPEN, motor CLOSE and LOCK (R94). -/
def Door.motorOpen (x : Door) : Bool := x.state == .opening
def Door.motorClose (x : Door) : Bool := x.state == .closing
def Door.lockEnergised (x : Door) : Bool := x.state == .closedLocked

/-- The states in which a door is travelling (R93). -/
def travelling : DoorState → Bool
  | .unlocking | .relieving | .opening | .closing => true
  | .closedLocked | .closed | .isOpen | .halted | .unhomed | .fault | .inactive => false

/-- The door's position lies within `tol` of `p`. -/
def near (x p : Int) (tol : Nat) : Bool := (x - p).natAbs ≤ tol

/-- A door is at 0 (R93). -/
def Door.atZero (cfg : DoorSettings) (x : Door) : Bool := near x.position 0 cfg.tolerance || x.inputs.closedStop

/-- A door is at the open position; one that meets both tests is at 0 (R93). -/
def Door.atOpen (cfg : DoorSettings) (x : Door) : Bool :=
  !x.atZero cfg && (near x.position cfg.openPosition cfg.tolerance || x.inputs.openStop)

/-- The CREEP output as R94 has it: a motor output on, and the door not homed or its position within the creep zone of
the current travel's target. A homing travel that the open end-stop homes on its way is judged so too, and runs on without CREEP
until it comes into the creep zone of 0 (DESIGN CHOICE, log entry 48; R110 has the homing travel run at creep). -/
def Door.creepWanted (cfg : DoorSettings) (x : Door) : Bool :=
  (x.motorOpen || x.motorClose) &&
    (!x.homed || (x.travel.bind (·.target)).any fun t => near x.position t cfg.creepZone)

/-! ### Escape-request sets -/

/-- The sources in the order of their bit numbers. -/
def EscapeSource.code : EscapeSource → Nat
  | .tunnelButton => 0
  | .passageButton => 1
  | .supervisory => 2
  | .escapeLine => 3
  | .scenario => 4

/-- The momentary sources; the other two are held (R105). -/
def EscapeSource.momentary : EscapeSource → Bool
  | .tunnelButton | .passageButton | .supervisory => true
  | .escapeLine | .scenario => false

/-- Put a source in the set (`true`) or take it out. -/
def EscapeSet.put (e : EscapeSet) (b : Bool) : EscapeSource → EscapeSet
  | .tunnelButton => { e with tunnelButton := b }
  | .passageButton => { e with passageButton := b }
  | .supervisory => { e with supervisory := b }
  | .escapeLine => { e with escapeLine := b }
  | .scenario => { e with scenario := b }

/-- The source is in the set. -/
def EscapeSet.has (e : EscapeSet) : EscapeSource → Bool
  | .tunnelButton => e.tunnelButton
  | .passageButton => e.passageButton
  | .supervisory => e.supervisory
  | .escapeLine => e.escapeLine
  | .scenario => e.scenario

/-- A door's escape request is active while its set is not empty (R105). -/
def EscapeSet.active (e : EscapeSet) : Bool :=
  e.tunnelButton || e.passageButton || e.supervisory || e.escapeLine || e.scenario

/-- The momentary sources consumed (R105). -/
def EscapeSet.consumed (e : EscapeSet) : EscapeSet :=
  { e with tunnelButton := false, passageButton := false, supervisory := false }

/-- A holding reason stands (R107): a held source in the set, or reclose suspended. -/
def Door.holdingReason (x : Door) : Bool := x.escape.escapeLine || x.escape.scenario || x.recloseSuspended

/-- The hold-open timer may run: OPEN, auto-reclose 1 and no holding reason (R107). Presence holds it at 0. -/
def Door.mayReclose (cfg : DoorSettings) (x : Door) : Bool := x.state == .isOpen && cfg.autoReclose && !x.holdingReason

/-! ### Flag bytes of the reply blocks (10.7) -/

/-- A flag byte from its bits, bit 0 first. -/
def flagByte (bits : List Bool) : Byte := byteOf (bits.foldr (fun b v => bitOf b + 2 * v) 0)

def lineFlags (s : State) : Byte := flagByte [s.modes.lineLost, s.stop.asserted, s.escape.asserted, s.maint.asserted]

def channelFlags (x : Channel) : Byte := flagByte [x.average.isSome, x.limited]

def fanFlags (x : Fan) : Byte := flagByte [x.creditWait, x.suspended, x.held, x.faultInput]

def doorFlags (x : Door) : Byte :=
  flagByte [x.homed, x.motorOpen, x.motorClose, x.creep, x.lockEnergised, x.unlockPolicy, x.recloseSuspended]

def doorInputs (p : DoorPins) : Byte :=
  flagByte [p.openStop, p.closedStop, p.safetyEdge, p.presence, p.tunnelButton, p.passageButton, p.serviceOpen,
    p.serviceClose]

def escapeBits (e : EscapeSet) : Byte :=
  flagByte [e.tunnelButton, e.passageButton, e.supervisory, e.escapeLine, e.scenario]

/-- The flag byte of a travel record: present, direction CLOSE, forced. -/
def travelFlags (t : Travel) : Byte := flagByte [true, t.dir == .toClose, t.forced]

end Sys2Proof.Machine
end

