-- ==== Sys2Proof/Machine/Operands.lean ====
section
/-! DEFINITION. The operand forms of the requests: unit numbers, code-valued fields both ways (the code table of 10.7),
signed and unsigned parameter values (R167). -/

namespace Sys2Proof.Machine

/-- The result codes of replies (R158). -/
inductive ResultCode where
  | ok | unknownKind | badLength | badUnit | badParam | outOfRange | locked | busy | refused | noKey
  deriving DecidableEq, Repr

def ResultCode.code : ResultCode → Nat
  | .ok => 0
  | .unknownKind => 1
  | .badLength => 2
  | .badUnit => 3
  | .badParam => 4
  | .outOfRange => 5
  | .locked => 6
  | .busy => 7
  | .refused => 8
  | .noKey => 9

/-! ### Unit numbers -/

/-- The channel of units 1 to 8, the fan of 9 to 12 and the door of 13 and 14. -/
def channelOfUnit (u : Nat) : Option (Fin 8) := if h : 1 ≤ u ∧ u ≤ 8 then some ⟨u - 1, by omega⟩ else none
def fanOfUnit (u : Nat) : Option (Fin 4) := if h : 9 ≤ u ∧ u ≤ 12 then some ⟨u - 9, by omega⟩ else none
def doorOfUnit (u : Nat) : Option (Fin 2) := if h : 13 ≤ u ∧ u ≤ 14 then some ⟨u - 13, by omega⟩ else none

/-- A number as an index below `n`. -/
def indexOf (n v : Nat) : Option (Fin n) := if h : v < n then some ⟨v, h⟩ else none

/-! ### Codes (10.7): from the state to the line -/

def kindCode : ChannelKind → Nat
  | .co => 0
  | .no2 => 1
  | .opacity => 2
  | .dpress => 3
  | .airvel => 4
  | .generic => 5

def channelStateCode : ChannelState → Nat
  | .inactive => 0
  | .warming => 1
  | .valid => 2
  | .fault => 3

def fanStateCode : FanState → Nat
  | .off => 0
  | .awaitGrant => 1
  | .starting => 2
  | .running => 3
  | .stopping => 4
  | .coasting => 5
  | .tripped => 6
  | .lockedOut => 7
  | .inactive => 8

def dirCode : Dir → Nat
  | .fwd => 0
  | .rev => 1

def fanCauseCode : FanCause → Nat
  | .target => 0
  | .grant => 1
  | .startDone => 2
  | .stall => 3
  | .startTimeout => 4
  | .driveFault => 5
  | .stallIgnored => 6
  | .suspended => 7
  | .stopLine => 8
  | .lockout => 9
  | .clear => 10

def tripCauseCode : TripCause → Nat
  | .noTrip => 0
  | .driveFault => 1
  | .stall => 2
  | .startTimeout => 3

def doorStateCode : DoorState → Nat
  | .closedLocked => 0
  | .closed => 1
  | .unlocking => 2
  | .relieving => 3
  | .opening => 4
  | .isOpen => 5
  | .closing => 6
  | .halted => 7
  | .unhomed => 8
  | .fault => 9
  | .inactive => 10

def doorDirCode : DoorDir → Nat
  | .toOpen => 0
  | .toClose => 1

def travelModeCode : TravelMode → Nat
  | .full => 0
  | .hold => 1
  | .step => 2

def reasonCode : Reason → Nat
  | .escape => 0
  | .autoReclose => 1
  | .supervisory => 2
  | .service => 3
  | .homing => 4

def terminationCode : Termination → Nat
  | .targetReached => 0
  | .endStop => 1
  | .released => 2
  | .obstructed => 3
  | .timedOut => 4
  | .aborted => 5

def reliefOutcomeCode : ReliefOutcome → Nat
  | .pressureOk => 0
  | .timeout => 1
  | .blind => 2

def modeCode : Mode → Nat
  | .auto => 0
  | .manual => 1
  | .incident => 2

def modeCauseCode : ModeCause → Nat
  | .setMode => 0
  | .maintReleased => 1
  | .lineLost => 2
  | .engage => 3
  | .engageNow => 4

def doorPolicyCode : DoorPolicy → Nat
  | .openHold => 0
  | .unlock => 1
  | .keep => 2

def priorityCode : PriorityMode → Nat
  | .fixed => 0
  | .rotating => 1

def lockPolicyCode : LockPolicy → Nat
  | .lockedWhenClosed => 0
  | .never => 1

def sourceCode : StationSource → Nat
  | .strapped => 0
  | .enumerated => 1
  | .unassigned => 2

/-- The bit rate that a code of the two straps selects (R155). -/
def BitRate.ofCode : Fin 4 → BitRate
  | 0 => .b9600
  | 1 => .b19200
  | 2 => .b38400
  | 3 => .b115200

/-- The code of a bit rate (R155). -/
def BitRate.code : BitRate → Nat
  | .b9600 => 0
  | .b19200 => 1
  | .b38400 => 2
  | .b115200 => 3

/-- A bit rate in bit/s (R155). -/
def BitRate.bitsPerSecond : BitRate → Nat
  | .b9600 => 9600
  | .b19200 => 19200
  | .b38400 => 38400
  | .b115200 => 115200

def lineNameCode : LineName → Nat
  | .stop => 0
  | .escape => 1
  | .maint => 2

def loopCauseCode : LoopCause → Nat
  | .loopLow => 0
  | .loopHigh => 1

/-- "none" is sent as 0xFFFF (R167). -/
def optionCode {n : Nat} : Option (Fin n) → Nat
  | some i => i.val
  | none => 0xFFFF

/-! ### Codes (10.7): from the line to the state; `none` where the value is not among the codes (R168) -/

def kindOfCode : Nat → Option ChannelKind
  | 0 => some .co
  | 1 => some .no2
  | 2 => some .opacity
  | 3 => some .dpress
  | 4 => some .airvel
  | 5 => some .generic
  | _ => none

def dirOfCode : Nat → Option Dir
  | 0 => some .fwd
  | 1 => some .rev
  | _ => none

def doorDirOfCode : Nat → Option DoorDir
  | 0 => some .toOpen
  | 1 => some .toClose
  | _ => none

def travelModeOfCode : Nat → Option TravelMode
  | 0 => some .full
  | 1 => some .hold
  | 2 => some .step
  | _ => none

def doorPolicyOfCode : Nat → Option DoorPolicy
  | 0 => some .openHold
  | 1 => some .unlock
  | 2 => some .keep
  | _ => none

def priorityOfCode : Nat → Option PriorityMode
  | 0 => some .fixed
  | 1 => some .rotating
  | _ => none

def lockPolicyOfCode : Nat → Option LockPolicy
  | 0 => some .lockedWhenClosed
  | 1 => some .never
  | _ => none

/-- A code that is an index below `n`, or "none" as 0xFFFF; the outer `none` is a value not among the codes. -/
def optionOfCode (n v : Nat) : Option (Option (Fin n)) :=
  if v = 0xFFFF then some none else (indexOf n v).map some

end Sys2Proof.Machine
end

