-- ==== Sys2Proof/Machine/Fans.lean ====
section
/-! DEFINITION. The state changes of a fan channel (chapter 3), its speed supervision figures (chapter 4), its credits
(chapter 5), and the feed arbiter that serves the requests (chapter 5). -/

namespace Sys2Proof.Machine

/-! ### Figures -/

/-- Expected rpm (R72). -/
def expectedRpm (cfg : FanSettings) (reference : Nat) : Nat := cfg.ratedRpm * reference / 10000

/-- The pass mark (R72). -/
def passMark (cfg : FanSettings) (reference : Nat) : Nat := expectedRpm cfg reference * (100 - cfg.tolerance) / 100

/-- The fan is up to speed: its measured rpm is at least the pass mark (R72). -/
def upToSpeed (s : State) (f : Fin 4) : Bool := passMark (s.fanCfg f) (s.fan f).reference ≤ (s.fan f).tach.rpm

/-- The coast conditions (R54), on times in ms. -/
def coastMet (cfg : FanSettings) (x : Fan) : Bool :=
  cfg.minDwell * 1000 ≤ x.offTime &&
    ((cfg.pulsesPerRev != 0 && 5000 ≤ x.standstill) || cfg.coastLimit * 1000 ≤ x.offTime)

/-- The AUTO target before boost and cap (R43): the default direction, and the table speed of the demand stage or, for
the pressurisation fan, the standby speed. -/
def tableSpeed (cfg : FanSettings) : Nat → Nat
  | 0 => cfg.speed0
  | 1 => cfg.speed1
  | 2 => cfg.speed2
  | _ => cfg.speed3

def autoTarget (s : State) (f : Fin 4) : Target :=
  { dir := (s.fanCfg f).defaultDir
    speed := if s.ctl.pressFan = some f then (s.fanCfg f).standby else tableSpeed (s.fanCfg f) s.demand.stage }

/-! ### Reports of a fan event -/

def tripReportCause : TripCause → FanCause
  | .noTrip => .target
  | .driveFault => .driveFault
  | .stall => .stall
  | .startTimeout => .startTimeout

def reportFan (f : Fin 4) (cause : FanCause) (s : State) : State :=
  report (fanUnit f) (.fanState (s.fan f).state cause) s

/-- One report for an event that changed the fan's state, for the state it ends in (R60); an event that ends in a trip
carries the trip's cause. -/
def reportFanChange (before : FanState) (f : Fin 4) (cause : FanCause) (s : State) : State :=
  if (s.fan f).state = before then s
  else if (s.fan f).state = .tripped then reportFan f (tripReportCause (s.fan f).lastTrip) s
  else reportFan f cause s

/-! ### State changes -/

/-- Give up a grant and any place on a list, with the flags CREDIT_WAIT and SUSPENDED. -/
def leaveArbiter (f : Fin 4) (s : State) : State :=
  (s.withArbiter { s.arbiter with
      holders := s.arbiter.holders.filter (· != f)
      waiting := s.arbiter.waiting.set f false
      suspended := s.arbiter.suspended.filter (· != f) }).withFan f
    { s.fan f with creditWait := false, suspended := false }

/-- Outputs off and reference 0 in state `st`; off time and standstill time start from 0 where an output was on. -/
def Fan.outputsOff (x : Fan) (st : FanState) : Fan :=
  { x with
    state := st
    reference := 0
    offTime := if drives x.state then 0 else x.offTime
    standstill := if drives x.state then 0 else x.standstill
    startTimer := none
    verifyTimer := none }

/-- Reference 0, output off, COASTING (R53, R56, R148). -/
def enterCoasting (f : Fin 4) (s : State) : State :=
  let s := leaveArbiter f s
  s.withFan f ((s.fan f).outputsOff .coasting)

/-- STOPPING with the reference where it stood, or COASTING at once from a reference of 0 (R50, R53). -/
def enterStopping (f : Fin 4) (s : State) : State :=
  let s := leaveArbiter f s
  let x := s.fan f
  if x.reference = 0 then s.withFan f (x.outputsOff .coasting)
  else s.withFan f { x with state := .stopping, startTimer := none, verifyTimer := none }

/-- A trip, without its report (R57). -/
def trip (f : Fin 4) (cause : TripCause) (s : State) : State :=
  let s := leaveArbiter f s
  let x := (s.fan f).outputsOff .tripped
  s.withFan f { x with tripCount := min 255 (x.tripCount + 1), lastTrip := cause }

/-- AWAIT_GRANT in the target's direction, on the waiting list or under CREDIT_WAIT (R48, R80); a fan whose FAULT
input is asserted trips at the entry (R42, R57). -/
def enterAwait (f : Fin 4) (s : State) : State :=
  let x := s.fan f
  let s := s.withFan f { x with state := .awaitGrant, latched := x.target.dir }
  if x.faultInput then trip f .driveFault s
  else if s.incident || x.credits != 0 then
    s.withArbiter { s.arbiter with waiting := s.arbiter.waiting.set f true }
  else s.withFan f { s.fan f with creditWait := true }

/-- The present target re-applied to a fan in OFF (R48). -/
def reapply (f : Fin 4) (s : State) : State :=
  if (s.fan f).state = .off ∧ (s.fan f).target.speed ≠ 0 ∧ startsPermitted s f = true then enterAwait f s else s

/-- OFF, and the target re-applied (R48, R54, R58, R59). -/
def enterOff (f : Fin 4) (s : State) : State := reapply f (s.withFan f ((s.fan f).outputsOff .off))

/-- RUNNING from STARTING: the grant released, the start-phase timer stopped, the verify timer 0 (R73, R74). -/
def enterRunning (f : Fin 4) (noted : Bool) (s : State) : State :=
  let s := leaveArbiter f s
  s.withFan f { s.fan f with state := .running, startTimer := none, verifyTimer := some 0, stallNoted := noted }

/-! ### Credits (R88, R89) -/

/-- A start draws a credit, if there is one; the timer starts when the count falls below the maximum (R88, R89). -/
def Fan.drawCredit (cfg : FanSettings) (x : Fan) : Fan :=
  let n := x.credits - 1
  { x with
    credits := n
    creditTimer := if n < cfg.maxCredits ∧ x.creditTimer = none ∧ x.credits ≠ 0 then some 0 else x.creditTimer }

/-- One regeneration: the count rises by one, and the timer restarts from 0 or stops (R89). -/
def Fan.regenerate (cfg : FanSettings) (x : Fan) : Fan :=
  { x with
    credits := min cfg.maxCredits (x.credits + 1)
    creditTimer := if x.credits + 1 < cfg.maxCredits then some 0 else none }

/-! ### The start phase (R73) -/

/-- The start phase of a fan that holds a grant ends now (R73, R77). -/
def startPhaseOver (s : State) (f : Fin 4) : Bool :=
  (s.fan f).state == .starting && s.arbiter.holders.contains f &&
    (s.fan f).reference == (s.fan f).target.speed * 10 && (!hasTach s f || upToSpeed s f)

/-- The start-phase test: where it passes the fan enters RUNNING with START_DONE (R73). The caller has the arbiter serve the
requests that wait. -/
def startPhaseTest (f : Fin 4) (s : State) : State :=
  if startPhaseOver s f then reportFan f .startDone (enterRunning f false s) else s

/-! ### Grants (sections 5.1 to 5.4) -/

/-- A slot is free (R79). -/
def slotFree (s : State) : Bool := s.arbiter.holders.length < s.ctl.slotCount

/-- The urgent request: the pressurisation fan, on one of the lists, while the urgency condition holds (R83). -/
def urgentRequest (s : State) : Option (Fin 4) :=
  if s.arbiter.urgency then
    s.ctl.pressFan.filter fun f => s.arbiter.waiting[f] || s.arbiter.suspended.contains f
  else none

/-- The fans in the order that begins after `f` and runs on cyclically (R82). -/
def fansAfter (f : Fin 4) : List (Fin 4) := [f + 1, f + 2, f + 3, f]

/-- The priority order of the present mode (R82). -/
def priorityOrder (s : State) : List (Fin 4) :=
  match s.ctl.priority, s.arbiter.rotation with
  | .fixed, _ => allFans
  | .rotating, none => allFans
  | .rotating, some f => fansAfter f

/-- The request that a free slot goes to (R81). -/
def nextRequest (s : State) : Option (Fin 4) :=
  match urgentRequest s with
  | some f => some f
  | none =>
    match s.arbiter.suspended with
    | f :: _ => some f
    | [] => (priorityOrder s).find? fun f => s.arbiter.waiting[f]

/-- A holder: the newest grant, and the rotation pointer set (R81). -/
def Arbiter.granted (a : Arbiter) (f : Fin 4) : Arbiter :=
  { a with
    holders := a.holders ++ [f]
    waiting := a.waiting.set f false
    suspended := a.suspended.filter (· != f)
    rotation := some f }

/-- A grant to a fan in AWAIT_GRANT: STARTING, its output on, the reference and the start-phase timer from 0, a credit
drawn (R48, R81, R88). -/
def firstGrant (f : Fin 4) (s : State) : State :=
  let x := (s.fan f).drawCredit (s.fanCfg f)
  reportFan f .grant ((s.withArbiter (s.arbiter.granted f)).withFan f
    { x with state := .starting, reference := 0, startTimer := some 0, limitUntested := false, offTime := 0, standstill := 0 })

/-- A re-grant to a suspended fan, and its start-phase test; its start limit waits for the next moment at which it is tested
(R74, R85). -/
def reGrant (f : Fin 4) (s : State) : State :=
  startPhaseTest f (reportFan f .grant ((s.withArbiter (s.arbiter.granted f)).withFan f
    { s.fan f with suspended := false, limitUntested := true }))

/-- Give the grant to the chosen fan. -/
def grant (f : Fin 4) (s : State) : State :=
  if s.arbiter.suspended.contains f then reGrant f s else firstGrant f s

/-- Suspend a holder: it joins the end of the suspended list and keeps STARTING and its output (R84). -/
def suspend (f : Fin 4) (s : State) : State :=
  reportFan f .suspended ((s.withArbiter { s.arbiter with
      holders := s.arbiter.holders.filter (· != f)
      suspended := s.arbiter.suspended ++ [f] }).withFan f { s.fan f with suspended := true })

/-- One choice of the arbiter: the urgent request takes a free slot or preempts the most recent holder (R84); else a
free slot goes to the next request (R81). `none` when there is nothing to give. -/
def serveOnce (s : State) : Option State :=
  match urgentRequest s with
  | some f =>
    if slotFree s then some (grant f s)
    else s.arbiter.holders.getLast?.map fun h => grant f (suspend h s)
  | none => if slotFree s then (nextRequest s).map fun f => grant f s else none

/-- Grants one at a time, while there is one to give (R81), whatever credits the chosen fan holds (log entry 44); every choice
but a preemption takes one of at most four requests off the lists, so eight are enough. -/
def serveFor : Nat → State → State
  | 0, s => s
  | n + 1, s =>
    match serveOnce s with
    | some s' => serveFor n s'
    | none => s

def serve (s : State) : State := serveFor 8 s

/-! ### A new target (section 3.3) -/

/-- What a target change does in the fan's state (R48 to R51, R53, R55, R56), before any report. -/
def takeTarget (f : Fin 4) (t : Target) (s : State) : State :=
  let x := s.fan f
  let s' := s.withFan f { x with target := t }
  match x.state with
  | .off => reapply f s'
  | .awaitGrant =>
    if t.speed = 0 then
      let s' := leaveArbiter f s'
      s'.withFan f ((s'.fan f).outputsOff .off)
    else s'.withFan f { s'.fan f with latched := t.dir }
  | .starting | .running =>
    if t.speed = 0 then enterStopping f s'
    else if t.dir = x.latched then s'
    else if s.incident then enterCoasting f s'
    else enterStopping f s'
  | .stopping =>
    if t.speed ≠ 0 ∧ t.dir = x.latched then
      s'.withFan f { s'.fan f with state := .running, verifyTimer := some 0, stallNoted := false }
    else s'
  | .coasting | .tripped | .lockedOut | .inactive => s'

/-- A target change as one event: the state rules, the report, the start-phase test of a fan in STARTING, and the
requests that then wait (R47, R60, R73, R81). -/
def targetChange (f : Fin 4) (t : Target) (s : State) : State :=
  serve (startPhaseTest f (reportFanChange (s.fan f).state f .target (takeTarget f t s)))

/-! ### Composition of the target (R46, R126) -/

/-- At least one door is in OPENING or OPEN. -/
def someDoorOpen (s : State) : Bool := allDoors.any fun d => (s.door d).state == .opening || (s.door d).state == .isOpen

/-- At least one door is in RELIEVING. -/
def someDoorRelieving (s : State) : Bool := allDoors.any fun d => (s.door d).state == .relieving

/-- The target of a fan: its mode target, for the pressurisation fan raised to the boost speed while a door is OPENING
or OPEN and then lowered to the relief speed while a door is RELIEVING (R126). -/
def composedTarget (s : State) (f : Fin 4) : Target :=
  let m := (s.fan f).modeTarget
  if s.ctl.pressFan = some f then
    let boosted := if someDoorOpen s then max m.speed (s.fanCfg f).boost else m.speed
    { m with speed := if someDoorRelieving s then min boosted (s.fanCfg f).relief else boosted }
  else m

/-- Recompose the target; one different from the target held is a target change (R47). -/
def recompose (f : Fin 4) (s : State) : State :=
  if composedTarget s f = (s.fan f).target then s else targetChange f (composedTarget s f) s

/-- A new mode target, and the target recomposed from it. -/
def setModeTarget (f : Fin 4) (t : Target) (s : State) : State := recompose f (s.withFan f { s.fan f with modeTarget := t })

/-- In AUTO, the AUTO target as it now is (R43); in the other modes nothing. -/
def refreshAuto (f : Fin 4) (s : State) : State :=
  if s.modes.mode = .auto then setModeTarget f (autoTarget s f) s else s

/-- The relief cap bears on the reference at once (R127). -/
def clampReference (f : Fin 4) (s : State) : State :=
  s.withFan f { s.fan f with reference := min (s.fan f).reference ((s.fanCfg f).relief * 10) }

/-! ### Urgency (R83) -/

/-- A door with an active escape request in UNLOCKING, RELIEVING, OPENING or OPEN. -/
def doorUrgent (x : Door) : Bool :=
  x.escape.active &&
    (x.state == .unlocking || x.state == .relieving || x.state == .opening || x.state == .isOpen)

/-- The urgency condition holds and a fan is named as the pressurisation fan. -/
def urgencyHolds (s : State) : Bool := s.ctl.pressFan.isSome && allDoors.any fun d => doorUrgent (s.door d)

/-- Urgency evaluated anew (R83). -/
def evaluateUrgency (s : State) : State := s.withArbiter { s.arbiter with urgency := urgencyHolds s }

/-- Urgency evaluated anew, and the requests that wait served (R81, R83). -/
def reviewUrgency (s : State) : State := serve (evaluateUrgency s)

/-- The pressurisation fan at a change of a door's state: the cap clamps its reference when a door enters RELIEVING while
neither was relieving (R127), then its target is recomposed (R126). -/
def fanTakesDoorChange (wasRelieving : Bool) (s : State) : State :=
  match s.ctl.pressFan with
  | some f => recompose f (if !wasRelieving && someDoorRelieving s then clampReference f s else s)
  | none => s

/-- A change of a door's state and set, handed to the feed arbiter and to the pressurisation fan (R83, R114): urgency is that
of the doors as they now are before any request is served (log entry 30). -/
def handDoorChange (wasRelieving : Bool) (s : State) : State := serve (fanTakesDoorChange wasRelieving (evaluateUrgency s))

end Sys2Proof.Machine
end

