-- ==== Sys2Proof/Machine/FanEvents.lean ====
section
/-! DEFINITION. The commands that reach one fan from its timers, its drive and its tach input: ramps, the start limit,
the verify window, the FAULT input, the coast conditions, credit regeneration (chapters 3 to 5) and tach edges
(chapter 4). -/

namespace Sys2Proof.Machine

/-! ### Leaving COASTING and TRIPPED (R54, R58) -/

/-- The end of COASTING (R54). -/
def leaveCoasting (f : Fin 4) (s : State) : State := serve (reportFanChange .coasting f .target (enterOff f s))

/-- The end of TRIPPED: OFF and the target re-applied below the trip limit or in INCIDENT, else LOCKED_OUT (R58). -/
def leaveTripped (f : Fin 4) (s : State) : State :=
  if (s.fan f).tripCount < (s.fanCfg f).tripLimit ∨ s.incident = true then
    serve (reportFanChange .tripped f .target (enterOff f s))
  else reportFan f .lockout (s.withFan f { s.fan f with state := .lockedOut, lockoutMemory := true })

/-- The test of the coast conditions (R54, R58). -/
def coastTest (f : Fin 4) (s : State) : State :=
  if coastMet (s.fanCfg f) (s.fan f) then
    match (s.fan f).state with
    | .coasting => leaveCoasting f s
    | .tripped => if (s.fan f).faultInput then s else leaveTripped f s
    | _ => s
  else s

/-- Off time and standstill time after `ms` more with the outputs off (R54). The standstill time runs at 0 rpm whatever the
pulses per rev are; with 0 of them the coast conditions do not read it (log entry 43). -/
def Fan.passTime (ms : Nat) (x : Fan) : Fan :=
  { x with
    offTime := min 600000 (x.offTime + ms)
    standstill := if x.tach.rpm = 0 then min 5000 (x.standstill + ms) else x.standstill }

/-- The time in ms until the coast conditions are met, at the speed now measured (R54). -/
def coastWait (cfg : FanSettings) (x : Fan) : Nat :=
  let toLimit := cfg.coastLimit * 1000 - x.offTime
  let toRest := if cfg.pulsesPerRev ≠ 0 ∧ x.tach.rpm = 0 then min toLimit (5000 - x.standstill) else toLimit
  max (cfg.minDwell * 1000 - x.offTime) (if cfg.pulsesPerRev ≠ 0 ∧ 5000 ≤ x.standstill then 0 else toRest)

/-- The moment at which the coast conditions of a COASTING or TRIPPED fan are met (R54; log entry 2). -/
def coastConditionsMet (f : Fin 4) (s : State) : State :=
  match (s.fan f).state with
  | .coasting | .tripped => coastTest f (s.withFan f ((s.fan f).passTime (coastWait (s.fanCfg f) (s.fan f))))
  | _ => s

def execCoastConditionsMet (f : Fin 4) (s : State) : Answer := .next (coastConditionsMet f s)

/-! ### The FAULT input (R42) -/

/-- A fan trips on its asserted FAULT input in these states (R42, R57). -/
def tripsOnFault : FanState → Bool
  | .starting | .running | .stopping | .awaitGrant => true
  | .off | .coasting | .tripped | .lockedOut | .inactive => false

/-- A change of the filtered FAULT input (R42, R57, R58). -/
def faultInputChange (f : Fin 4) (asserted : Bool) (s : State) : State :=
  let before := (s.fan f).state
  let s' := s.withFan f { s.fan f with faultInput := asserted }
  if asserted then
    if tripsOnFault before then serve (reportFanChange before f .driveFault (trip f .driveFault s')) else s'
  else if before = .tripped then coastTest f s'
  else s'

def execFaultInputChange (f : Fin 4) (asserted : Bool) (s : State) : Answer := .next (faultInputChange f asserted s)

/-! ### Supervision (R74 to R76) -/

/-- What the fan does when its start limit expires (R74). -/
def startLimitExpires (f : Fin 4) (s : State) : State :=
  if s.incident then serve (reportFan f .stallIgnored (enterRunning f true s))
  else serve (reportFanChange .starting f .startTimeout (trip f .startTimeout s))

/-- The start limit has expired: the start-phase timer of a STARTING fan that holds a grant stands at it or beyond, at a moment
at which it is tested, its last advance or a write of the limit (R74); a re-grant is no such moment. -/
def startLimitReached (s : State) (f : Fin 4) : Bool :=
  (s.fan f).state == .starting && s.arbiter.holders.contains f && !(s.fan f).limitUntested &&
    (s.fan f).startTimer.any fun t => (s.fanCfg f).startLimit * 1000 ≤ t

def startLimitExpiry (f : Fin 4) (s : State) : State := if startLimitReached s f then startLimitExpires f s else s

/-- The start limit tested at an accepted write of it (R74). -/
def startLimitWritten (f : Fin 4) (s : State) : State :=
  startLimitExpiry f (s.withFan f { s.fan f with limitUntested := false })

def execStartLimitExpiry (f : Fin 4) (s : State) : Answer := .next (startLimitExpiry f s)

/-- The verify timer of a RUNNING fan with a tach has reached the verify window (R76, R77). -/
def verifyWindowReached (s : State) (f : Fin 4) : Bool :=
  (s.fan f).state == .running && hasTach s f &&
    (s.fan f).verifyTimer.any fun t => (s.fanCfg f).verifyWindow * 1000 ≤ t

/-- STALL outside INCIDENT; in INCIDENT one STALL_IGNORED report for each RUNNING period (R76). -/
def verifyWindowExpiry (f : Fin 4) (s : State) : State :=
  if verifyWindowReached s f then
    if s.incident then
      if (s.fan f).stallNoted then s
      else (reportFan f .stallIgnored s).withFan f { s.fan f with stallNoted := true }
    else serve (reportFanChange .running f .stall (trip f .stall s))
  else s

def execVerifyWindowExpiry (f : Fin 4) (s : State) : Answer := .next (verifyWindowExpiry f s)

/-! ### Ramp instants (R52, R53, R73, R75) -/

/-- One step of the reference toward its aim (R52). -/
def rampStep (cfg : FanSettings) (reference aim : Nat) : Nat :=
  if reference < aim then min (reference + cfg.rampUp) aim
  else if aim < reference then max (reference - cfg.rampDown) aim
  else reference

def stepReference (f : Fin 4) (aim : Nat) (s : State) : State :=
  s.withFan f { s.fan f with reference := rampStep (s.fanCfg f) (s.fan f).reference aim }

/-- The start-phase timer 100 ms further (R73), at which the start limit is tested (R74). -/
def advanceStartTimer (f : Fin 4) (s : State) : State :=
  s.withFan f { s.fan f with startTimer := (s.fan f).startTimer.map (· + 100), limitUntested := false }

/-- A ramp instant in STARTING under a grant: the ramp step, the start-phase test, the advance of the timer. Where the
start phase ends at the instant at which the start limit expires, either is taken first (R74; log entry 6). -/
def rampStarting (f : Fin 4) (s : State) : State :=
  let stepped := stepReference f ((s.fan f).target.speed * 10) s
  let advanced := advanceStartTimer f stepped
  if startPhaseOver stepped f then
    if startLimitReached advanced f then
      if s.freeChoice % 2 = 0 then serve (startPhaseTest f stepped.nextChoice)
      else startLimitExpires f advanced.nextChoice
    else serve (startPhaseTest f stepped)
  else advanced

/-- The verify timer after the comparison of a ramp instant (R75, R76, R77). -/
def verifyStep (s : State) (f : Fin 4) : Option Nat :=
  if !hasTach s f || upToSpeed s f then some 0
  else (s.fan f).verifyTimer.map fun t => if (s.fanCfg f).verifyWindow * 1000 ≤ t then t else t + 100

def rampInstant (f : Fin 4) (s : State) : State :=
  match (s.fan f).state with
  | .starting => if s.arbiter.holders.contains f then rampStarting f s else s
  | .running =>
    let s := stepReference f ((s.fan f).target.speed * 10) s
    s.withFan f { s.fan f with verifyTimer := verifyStep s f }
  | .stopping =>
    let s := stepReference f 0 s
    if (s.fan f).reference = 0 then serve (reportFanChange .stopping f .target (enterCoasting f s)) else s
  | .off | .awaitGrant | .coasting | .tripped | .lockedOut | .inactive => s

def execRampInstant (f : Fin 4) (s : State) : Answer := .next (rampInstant f s)

/-! ### Credit regeneration (R89, R90) -/

/-- A fan in CREDIT_WAIT that holds a credit joins the waiting list (R90). -/
def joinOnCredit (f : Fin 4) (s : State) : State :=
  if (s.fan f).creditWait then
    serve ((s.withArbiter { s.arbiter with waiting := s.arbiter.waiting.set f true }).withFan f
      { s.fan f with creditWait := false })
  else s

/-- The moment at which a running credit timer reaches the credit interval (R89, R90; log entry 2). -/
def creditRegeneration (f : Fin 4) (s : State) : State :=
  if (s.fan f).creditTimer.isSome then joinOnCredit f (s.withFan f ((s.fan f).regenerate (s.fanCfg f))) else s

def execCreditRegeneration (f : Fin 4) (s : State) : Answer := .next (creditRegeneration f s)

/-! ### The tach input (sections 4.1 and 4.2) -/

/-- The timeout of the tach input in µs (R69). -/
def tachLimit : Nat := 2000000

/-- A measured rpm handed to the fan: its standstill time, and the test its state calls for (R54, R71, R73, R75). -/
def handRpm (f : Fin 4) (s : State) : State :=
  let x := s.fan f
  let s := if x.tach.rpm = 0 then s else s.withFan f { x with standstill := 0 }
  match x.state with
  | .starting => serve (startPhaseTest f s)
  | .running =>
    if !hasTach s f || upToSpeed s f then s.withFan f { s.fan f with verifyTimer := some 0 } else s
  | _ => s

def State.withTach (s : State) (f : Fin 4) (t : Tach) : State := s.withFan f { s.fan f with tach := t }

/-- The timeout of the tach input expires (R69). -/
def tachExpires (f : Fin 4) (s : State) : State :=
  handRpm f (s.withTach f { (s.fan f).tach with rpm := 0, periodAge := none, lastPeriod := none, timeout := none })

/-- The moment at which a running timeout timer reaches 2 s (R69; log entry 2). -/
def tachTimeout (f : Fin 4) (s : State) : State := if (s.fan f).tach.timeout.isSome then tachExpires f s else s

def execTachTimeout (f : Fin 4) (s : State) : Answer := .next (tachTimeout f s)

/-- The working tach settings differ from those in force (R70). -/
def tachSettingsDiffer (cfg : FanSettings) (t : Tach) : Bool :=
  t.prescale != cfg.prescale || t.filterN != cfg.filterN || t.pulses != cfg.pulsesPerRev

/-- The computed speed (R68). -/
def rpmOf (prescale pulses period : Nat) : Nat := min 9999 (60000000 * prescale / (pulses * period))

/-- A prescaled edge (R68): the period timed, the speed computed and handed on, a new period opened. A period timed with pulses
per rev in force 0 gives no new speed, and nothing is handed on (DESIGN CHOICE, log entry 49; R71 has a hand-off at each timed
period). -/
def prescaledEdge (f : Fin 4) (s : State) : State :=
  let t := (s.fan f).tach
  match t.periodAge with
  | some p =>
    if t.pulses = 0 then s.withTach f { t with prescaleCount := 0, lastPeriod := some p, periodAge := some 0, timeout := some 0 }
    else handRpm f (s.withTach f { t with prescaleCount := 0, lastPeriod := some p, rpm := rpmOf t.prescale t.pulses p,
                                          periodAge := some 0, timeout := some 0 })
  | none => s.withTach f { t with prescaleCount := 0, periodAge := some 0, timeout := some 0 }

/-- Changed tach settings taken into force at an accepted edge, which then does not count (R70). -/
def takeTachSettings (f : Fin 4) (s : State) : State :=
  let cfg := s.fanCfg f
  let t := (s.fan f).tach
  let t' := { t with prescale := cfg.prescale, filterN := cfg.filterN, pulses := cfg.pulsesPerRev, prescaleCount := 0,
                     periodAge := none }
  if t.pulses ≠ 0 ∧ cfg.pulsesPerRev = 0 then handRpm f (s.withTach f { t' with rpm := 0, lastPeriod := none })
  else s.withTach f t'

/-- The period and the timeout of a tach input `us` µs further. -/
def Tach.run (us : Nat) (t : Tach) : Tach :=
  { t with timeout := t.timeout.map (· + us), periodAge := t.periodAge.map (· + us) }

/-- `us` µs pass with no accepted edge at their end: the timeout expires where it is reached (R69). -/
def tachPasses (f : Fin 4) (us : Nat) (s : State) : State :=
  let s := if (s.fan f).tach.timeout.any fun t => tachLimit ≤ t + us then tachExpires f s else s
  s.withTach f ((s.fan f).tach.run us)

/-- `us` µs pass up to an accepted edge; at exactly 2 s the edge is taken first (R69; log entry 15). -/
def tachReachesEdge (f : Fin 4) (us : Nat) (s : State) : State :=
  let s := if (s.fan f).tach.timeout.any fun t => tachLimit < t + us then tachExpires f s else s
  s.withTach f ((s.fan f).tach.run us)

/-- A rising accepted edge counts toward the prescaled edge (R67). -/
def countEdge (f : Fin 4) (s : State) : State :=
  let t := (s.fan f).tach
  if t.prescale ≤ t.prescaleCount + 1 then prescaledEdge f s
  else s.withTach f { t with prescaleCount := t.prescaleCount + 1 }

/-- The accepted level becomes that of the pin: changed settings are taken into force, or a rising edge counts (R66, R67,
R70). -/
def takeEdge (f : Fin 4) (s : State) : State :=
  let s := s.withTach f { (s.fan f).tach with level := (s.fan f).tach.pin, disagreement := 0 }
  if tachSettingsDiffer (s.fanCfg f) (s.fan f).tach then takeTachSettings f s
  else if (s.fan f).tach.level then countEdge f s
  else s

/-- The samples at the level that is not accepted up to the one that brings the disagreement count to the filter N in force
(R66). -/
def Tach.samplesToEdge (t : Tach) : Nat := max 1 (t.filterN - t.disagreement)

/-- `n` samples of 20 µs of the pin at its present level (R66): at the accepted level they set the disagreement count to 0, at
the other they add to it, and the one that completes the count is an accepted edge. -/
def tachTakesSamples (f : Fin 4) (n : Nat) (s : State) : State :=
  let t := (s.fan f).tach
  if n = 0 then s
  else if t.pin = t.level then tachPasses f (20 * n) (s.withTach f { t with disagreement := 0 })
  else if n < t.samplesToEdge then tachPasses f (20 * n) (s.withTach f { t with disagreement := t.disagreement + n })
  else tachPasses f (20 * (n - t.samplesToEdge)) (takeEdge f (tachReachesEdge f (20 * t.samplesToEdge) s))

/-- The pin at the level `high`, and so many samples of it (R66; log entry 15). -/
def acceptedEdge (f : Fin 4) (high : Bool) (samples : Nat) (s : State) : State :=
  tachTakesSamples f samples (s.withTach f { (s.fan f).tach with pin := high })

def execAcceptedEdge (f : Fin 4) (high : Bool) (samples : Nat) (s : State) : Answer :=
  .next (acceptedEdge f high samples s)

end Sys2Proof.Machine
end

