-- ==== Sys2Proof/Machine/Doors.lean ====
section
/-! DEFINITION. The state changes of a door channel: entry into a state, travels and their ends, obstruction, relief,
escape requests, locking (chapters 6 and 7). -/

namespace Sys2Proof.Machine

/-! ### Entry into a state -/

/-- The hold-open timer started from 0, if the conditions of R107 hold; presence holds it there. -/
def Door.startHold (cfg : DoorSettings) (x : Door) : Door :=
  { x with holdOpen := if x.mayReclose cfg then some 0 else none }

/-- The reopen timer stops when the escape-request set is empty (R104). -/
def Door.dropReopen (x : Door) : Door := { x with reopen := if x.escape.active then x.reopen else none }

/-- What entry into a state does inside the door: momentary sources consumed in OPEN, FAULT and INACTIVE (R105), the
retry count set in CLOSED and CLOSED_LOCKED (R108), the hold-open timer started in OPEN and stopped elsewhere (R107),
the settle, travel and relief items cleared outside their states (R98, R100, R124), CREEP off with the motor (R94). -/
def Door.entered (cfg : DoorSettings) (st : DoorState) (x : Door) : Door :=
  let motor := st == DoorState.opening || st == DoorState.closing
  let consumes := st == DoorState.isOpen || st == DoorState.fault || st == DoorState.inactive
  let y := { x with
    state := st
    escape := if consumes then x.escape.consumed else x.escape
    retry := if st == DoorState.closed || st == DoorState.closedLocked then cfg.retries else x.retry
    settle := if st == DoorState.unlocking then x.settle else none
    travelTimer := if motor then x.travelTimer else none
    creep := motor && x.creep
    reliefTimer := if st == DoorState.relieving then x.reliefTimer else none
    reliefChannel := if st == DoorState.relieving then x.reliefChannel else none
    lastObserved := if st == DoorState.relieving then x.lastObserved else none
    observedUsable := st == DoorState.relieving && x.observedUsable }
  (y.startHold cfg).dropReopen

/-- A door enters a state; the change is handed to the pressurisation fan and the feed arbiter (R114). -/
def enterDoor (d : Fin 2) (st : DoorState) (s : State) : State :=
  handDoorChange (someDoorRelieving s) (s.withDoor d ((s.door d).entered (s.doorCfg d) st))

/-- CREEP switched as R94 has it. -/
def updateCreep (d : Fin 2) (s : State) : State :=
  s.withDoor d { s.door d with creep := (s.door d).creepWanted (s.doorCfg d) }

/-- A door in CLOSED relocks under LOCKED_WHEN_CLOSED with no UNLOCK policy engaged (R109). -/
def relock (d : Fin 2) (s : State) : State :=
  if (s.door d).state = .closed ∧ (s.doorCfg d).lockPolicy = .lockedWhenClosed ∧ (s.door d).unlockPolicy = false then
    enterDoor d .closedLocked s
  else s

/-! ### Starting a travel (R96, R97) -/

/-- Motor on in the travel's direction, the travel timer from 0 (R97). -/
def runMotor (d : Fin 2) (dir : DoorDir) (s : State) : State :=
  let s := s.withDoor d { s.door d with travelTimer := some 0 }
  updateCreep d (enterDoor d (match dir with
    | .toOpen => DoorState.opening
    | .toClose => .closing) s)

/-- An opening travel on a door with an active escape request is an escape travel (R96). -/
def Door.raised (x : Door) (t : Travel) : Travel :=
  if t.dir = .toOpen ∧ x.escape.active = true then { t with reason := .escape, mode := .full, given := none } else t

/-- The target of a travel, fixed when it becomes current (R96). -/
def Door.targetOf (cfg : DoorSettings) (x : Door) (t : Travel) : Int :=
  match t.mode with
  | .step =>
    let p : Int := match t.dir with
      | .toOpen => x.position + cfg.stepSize
      | .toClose => x.position - cfg.stepSize
    max 0 (min p cfg.openPosition)
  | .full =>
    match t.given, t.dir with
    | some g, _ => (min g cfg.openPosition : Nat)
    | none, .toOpen => cfg.openPosition
    | none, .toClose => 0
  | .hold =>
    match t.dir with
    | .toOpen => cfg.openPosition
    | .toClose => 0

/-- A travel becomes current: its target fixed, the reopen timer stopped, reclose suspended cleared unless its reason is
AUTO_RECLOSE (R96, R104, R108). -/
def Door.makeCurrent (cfg : DoorSettings) (t : Travel) (x : Door) : Door :=
  { x with
    travel := some { t with target := some (x.targetOf cfg t) }
    reopen := none
    recloseSuspended := x.recloseSuspended && t.reason == .autoReclose }

def setCurrent (d : Fin 2) (t : Travel) (s : State) : State := s.withDoor d ((s.door d).makeCurrent (s.doorCfg d) t)

/-- A record placed in the next-travel slot; one that stood there is reported as replaced (R101). -/
def placeInSlot (d : Fin 2) (t : Travel) (s : State) : State :=
  let s := match (s.door d).slot with
    | some old => report (doorUnit d) (.nextReplaced old.dir old.reason) s
    | none => s
  s.withDoor d { s.door d with slot := some t }

def clearSlot (d : Fin 2) (s : State) : State := s.withDoor d { s.door d with slot := none }

/-- The escape travel (R106). -/
def escapeTravel : Travel :=
  { dir := .toOpen, mode := .full, given := none, target := none, reason := .escape, forced := false }

/-- The homing travel (R110). -/
def homingTravel : Travel :=
  { dir := .toClose, mode := .full, given := none, target := none, reason := .homing, forced := false }

/-! ### The pressure check and relief (R119 to R124) -/

/-- The channel's average is usable: WARMING or VALID, and present (R20). -/
def Channel.usable (x : Channel) : Bool := (x.state == .warming || x.state == .valid) && x.average.isSome

/-- The absolute value of the average is at most the pressure limit (R119). -/
def Channel.atMost (x : Channel) (limit : Nat) : Bool := x.average.any fun a => a.natAbs ≤ limit

/-- Relief ends: the forced flag for TIMEOUT, the RELIEF report, OPENING (R124). For TIMEOUT the report carries the last
observed average, absent where that observation found none (log entry 47). -/
def endRelief (d : Fin 2) (outcome : ReliefOutcome) (s : State) : State :=
  let x := s.door d
  let s := s.withDoor d { x with travel := x.travel.map fun t => { t with forced := t.forced || outcome == .timeout } }
  runMotor d .toOpen (report (doorUnit d)
    (.relief outcome (x.reliefTimer.getD 0 / 100) (if outcome = .blind then none else x.lastObserved)) s)

/-- RELIEVING on channel `c`, with the blind test made at entry (R120, R123). -/
def enterRelieving (d : Fin 2) (c : Fin 8) (s : State) : State :=
  let ch := s.channel c
  let s := enterDoor d .relieving (s.withDoor d { s.door d with
    reliefChannel := some c, reliefTimer := some 0, lastObserved := ch.average, observedUsable := ch.usable })
  if !ch.usable && (s.doorCfg d).blindTime == 0 then endRelief d .blind s else s

/-- The pressure check of an opening from 0 (R119). -/
def pressureCheck (d : Fin 2) (s : State) : State :=
  match (s.doorCfg d).pressureChannel with
  | none => runMotor d .toOpen s
  | some c =>
    if (s.channel c).usable && (s.channel c).atMost (s.doorCfg d).pressureLimit then runMotor d .toOpen s
    else enterRelieving d c s

/-! ### A travel becomes current and starts from the state the door is in (R97) -/

/-- The door makes the pressure check before an opening: CLOSED, or HALTED at 0 (R97). -/
def checksPressure (cfg : DoorSettings) (x : Door) (dir : DoorDir) : Bool :=
  dir == .toOpen && (x.state == .closed || (x.state == .halted && x.atZero cfg))

def beginTravel (d : Fin 2) (t : Travel) (s : State) : State :=
  let x := s.door d
  let r := x.raised t
  if x.state = .unhomed ∧ r.reason ≠ .escape then
    runMotor d .toClose (setCurrent d homingTravel (placeInSlot d t s))
  else
    let s := setCurrent d r s
    if x.state = .closedLocked then enterDoor d .unlocking (s.withDoor d { s.door d with settle := some 0 })
    else if checksPressure (s.doorCfg d) x r.dir then pressureCheck d s
    else runMotor d r.dir s

/-! ### The end of a travel (R99, R100) -/

/-- The service button of a direction is asserted. -/
def serviceButton (p : DoorPins) : DoorDir → Bool
  | .toOpen => p.serviceOpen
  | .toClose => p.serviceClose

/-- The end-stop of a direction is asserted. -/
def endStopOf (p : DoorPins) : DoorDir → Bool
  | .toOpen => p.openStop
  | .toClose => p.closedStop

/-- The travel makes the TARGET_REACHED test: every travel of a homed door but the homing travel itself (R99, R110). -/
def Door.testsTarget (x : Door) (t : Travel) : Bool := x.homed && !(t.reason == .homing && t.dir == .toClose)

/-- TARGET_REACHED (R99). -/
def Door.targetReached (cfg : DoorSettings) (x : Door) (t : Travel) : Bool :=
  x.testsTarget t && t.target.any fun p =>
    match t.dir with
    | .toOpen => p - cfg.tolerance ≤ x.position
    | .toClose => x.position ≤ p + cfg.tolerance

/-- The first termination condition that holds for the current travel, in the order of preference of R99. `edge` says
whether the safety edge is among the inputs tested now (log entry 18). The order of preference, which R99 gives for the start
of a travel, is kept during it too, where R99 lets either condition be taken first (log entry 45). -/
def Door.termination (cfg : DoorSettings) (edge : Bool) (x : Door) : Option Termination :=
  match x.travel with
  | none => none
  | some t =>
    let motor := x.motorOpen || x.motorClose
    if motor && endStopOf x.inputs t.dir then some .endStop
    else if motor && x.targetReached cfg t then some .targetReached
    else if motor && edge && x.inputs.safetyEdge then some .obstructed
    else if travelling x.state && t.mode == .hold && !serviceButton x.inputs t.dir then some .released
    else if motor && (x.travelTimer.any fun ms => cfg.travelLimit * 1000 ≤ ms) then some .timedOut
    else none

/-- Where a door rests after a travel that ends neither TIMED_OUT nor reversed (R100, R104). -/
def Door.restState (cfg : DoorSettings) (x : Door) (t : Travel) (e : Termination) : DoorState :=
  if x.state = .unlocking ∨ x.state = .relieving then .closed
  else if x.homed = false then .unhomed
  else if e = .obstructed then .halted
  else if t.dir = .toOpen ∧ x.atOpen cfg = true then .isOpen
  else if t.dir = .toClose ∧ x.atZero cfg = true then .closed
  else .halted

/-- The motor off, the travel no longer current, and its DOOR_DONE report (R100, steps 1 and 2). -/
def doneReport (d : Fin 2) (t : Travel) (e : Termination) (s : State) : State :=
  report (doorUnit d) (.doorDone t.dir e (s.door d).position t.forced)
    (s.withDoor d { s.door d with travel := none, travelTimer := none, creep := false })

/-- An obstructed CLOSE travel reverses (R103). -/
def reverses (x : Door) (e : Termination) : Bool := e == .obstructed && x.state == .closing

/-- The reverse travel of an obstructed CLOSE travel (R103). -/
def reverse (d : Fin 2) (t : Travel) (s : State) : State :=
  let x := s.door d
  let left := x.retry - 1
  let x := if t.reason = .autoReclose then
      { x with retry := left, recloseSuspended := x.recloseSuspended || left == 0 }
    else x
  let r := x.raised { escapeTravel with reason := t.reason }
  runMotor d .toOpen (setCurrent d r (s.withDoor d x))

/-- The next-travel slot considered by a door come to rest: its record starts, or the door relocks (R100). -/
def considerSlot (d : Fin 2) (s : State) : State :=
  match (s.door d).slot with
  | some next => beginTravel d next (clearSlot d s)
  | none => relock d s

/-- An obstruction that stops an opening, not one that reverses a closing (R104). -/
def stopsOpening (x : Door) (e : Termination) : Bool := e == .obstructed && x.travel.any fun t => t.dir == .toOpen

/-- After an obstructed opening and whatever the slot brought in the same event, the reopen timer starts on a door that rests
in HALTED or UNHOMED with its escape-request set not empty (R104). -/
def startReopen (d : Fin 2) (obstructed : Bool) (s : State) : State :=
  let x := s.door d
  if obstructed = true ∧ x.escape.active = true ∧ (x.state = .halted ∨ x.state = .unhomed) then
    s.withDoor d { x with reopen := some 0 }
  else s

/-- A travel terminates (R100). Whatever becomes current in its place has not been tested yet. -/
def finishTravel (d : Fin 2) (e : Termination) (s : State) : State :=
  match (s.door d).travel with
  | none => s
  | some t =>
    let rest := (s.door d).restState (s.doorCfg d) t e
    let back := reverses (s.door d) e
    let s := doneReport d t e s
    if e = .timedOut then enterDoor d .fault (clearSlot d s)
    else if back then reverse d t s
    else considerSlot d (enterDoor d rest s)

/-- The tests of R99, and those at the start of each travel that then becomes current, until none holds. The reverse of an
obstructed closing is not tested against the safety edge that ended it. A door that would home again and again within the
event drops the record in its slot (log entry 18). `obstructed` says whether an opening has been stopped within the event. -/
def testsFor : Nat → Bool → Bool → Fin 2 → State → State
  | 0, _, obstructed, d, s => startReopen d obstructed s
  | n + 1, edge, obstructed, d, s =>
    match (s.door d).termination (s.doorCfg d) edge with
    | none => startReopen d obstructed s
    | some e =>
      testsFor n (!reverses (s.door d) e) (obstructed || stopsOpening (s.door d) e) d
        (finishTravel d e (if n < 2 then clearSlot d s else s))

/-- The tests at a change of a position, a level, a timer or a parameter (R99); a change of the safety edge is tested by
`testStart`. -/
def testTravel (d : Fin 2) (s : State) : State := testsFor 6 false false d s

/-- The tests at the start of a travel (R97, R99), and at an assertion of the safety edge. -/
def testStart (d : Fin 2) (s : State) : State := testsFor 6 true false d s

/-- A travel becomes current and makes its tests (R97). -/
def startTravel (d : Fin 2) (t : Travel) (s : State) : State := testStart d (beginTravel d t s)

/-- The current travel ends, and whatever follows makes its tests (R100). -/
def endTravel (d : Fin 2) (e : Termination) (s : State) : State := testStart d (finishTravel d e s)

/-! ### Escape requests (R105, R106) -/

/-- The current travel raised to an escape travel (R96). -/
def raiseCurrent (d : Fin 2) (s : State) : State :=
  let cfg := s.doorCfg d
  s.withDoor d { s.door d with
    slot := none
    travel := (s.door d).travel.map fun t =>
      { t with reason := .escape, mode := .full, given := none, target := some cfg.openPosition } }

/-- A CLOSE travel ended ABORTED by an escape request, the slot emptied, and the escape travel current (R98, R106). -/
def abortToEscape (d : Fin 2) (s : State) : State :=
  let s := match (s.door d).travel with
    | some t => report (doorUnit d) (.doorDone t.dir .aborted (s.door d).position t.forced) s
    | none => s
  setCurrent d escapeTravel (clearSlot d s)

/-- What an escape request does in the door's state (R106, R98); it stops a running reopen timer, in OPEN too, where no travel
becomes current (R104). -/
def escapeActs (d : Fin 2) (s : State) : State :=
  match (s.door d).state with
  | .closedLocked | .closed | .halted | .unhomed | .fault => startTravel d escapeTravel s
  | .closing => testStart d (runMotor d .toOpen (abortToEscape d s))
  | .unlocking =>
    if (s.door d).travel.any fun t => t.dir == .toClose then abortToEscape d s else raiseCurrent d s
  | .relieving | .opening => raiseCurrent d s
  | .isOpen => s.withDoor d { (s.door d).startHold (s.doorCfg d) with reopen := none }
  | .inactive => s

/-- A change of the escape-request set, handed to the feed arbiter (R83, R105). -/
def putSource (d : Fin 2) (b : Bool) (src : EscapeSource) (s : State) : State :=
  reviewUrgency (s.withDoor d ({ s.door d with escape := (s.door d).escape.put b src }.dropReopen))

/-- An arrival of a source: its DOOR_REQUEST report and its effect; in OPEN a momentary source is then consumed (R105). -/
def arrive (d : Fin 2) (src : EscapeSource) (s : State) : State :=
  if (s.door d).state = .inactive then s
  else
    let wasOpen := (s.door d).state == .isOpen
    let s := escapeActs d (reviewUrgency (report (doorUnit d) (.doorRequest src)
      (s.withDoor d { s.door d with escape := (s.door d).escape.put true src })))
    if wasOpen && src.momentary then putSource d false src s else s

/-- A held source leaves the set, with no report: an OPEN door starts its hold-open timer if the last holding reason has
ended, and an empty set stops the reopen timer (R105, R107, R139, R152). -/
def removeSource (d : Fin 2) (src : EscapeSource) (s : State) : State :=
  if (s.door d).escape.has src then
    let s := putSource d false src s
    if (s.door d).holdingReason then s else s.withDoor d ((s.door d).startHold (s.doorCfg d))
  else s

/-! ### Position (R95) -/

/-- The position saturates at both ends of 16 bits (R95). -/
def saturate (p : Int) : Int := max (-32768) (min p 32767)

/-- A door at rest in CLOSED that ceases to be at 0 enters HALTED (R95); a write of the tolerance is no such event (log
entry 46). -/
def leaveClosed (d : Fin 2) (wasAtZero : Bool) (s : State) : State :=
  if (s.door d).state = .closed ∧ wasAtZero = true ∧ (s.door d).atZero (s.doorCfg d) = false then enterDoor d .halted s
  else s

end Sys2Proof.Machine
end

