-- ==== Sys2Proof/Machine/DoorEvents.lean ====
section
/-! DEFINITION. The commands that reach one door from its encoder, its switch inputs and its timers (chapters 6
and 7), and the observation of the relief channel (R121). -/

namespace Sys2Proof.Machine

/-- The door rests in CLOSED and is at 0. -/
def closedAtZero (s : State) (d : Fin 2) : Bool := (s.door d).state == .closed && (s.door d).atZero (s.doorCfg d)

/-! ### Encoder and end-stops (R95, R99) -/

/-- The position after one edge (R95). -/
def movedBy : QuadEdge → Int → Int
  | .towardOpen, p => saturate (p + 1)
  | .towardClose, p => saturate (p - 1)
  | .bothAtOnce, p => p

/-- A new position: CREEP switched, the travel tested, a door in CLOSED judged (R94, R95, R99). -/
def positionChanged (d : Fin 2) (wasAtZero : Bool) (s : State) : State :=
  leaveClosed d wasAtZero (testTravel d (updateCreep d s))

def encoderEdge (d : Fin 2) (edge : QuadEdge) (s : State) : State :=
  match edge with
  | .bothAtOnce => s
  | .towardOpen | .towardClose =>
    positionChanged d (closedAtZero s d) (s.withDoor d { s.door d with position := movedBy edge (s.door d).position })

def execEncoderEdge (d : Fin 2) (edge : QuadEdge) (s : State) : Answer := .next (encoderEdge d edge s)

def setEndStop (p : DoorPins) (b : Bool) : EndStop → DoorPins
  | .openStop => { p with openStop := b }
  | .closedStop => { p with closedStop := b }

def endStopLevel (p : DoorPins) : EndStop → Bool
  | .openStop => p.openStop
  | .closedStop => p.closedStop

/-- An end-stop becomes asserted: the position set and homed, then its effect in the door's state (R95). -/
def endStopAsserted (d : Fin 2) (stop : EndStop) (wasAtZero : Bool) (s : State) : State :=
  let s := s.withDoor d { s.door d with
    homed := true
    position := match stop with
      | .openStop => ((s.doorCfg d).openPosition : Int)
      | .closedStop => 0 }
  if (s.door d).state = .unhomed then
    match stop with
    | .closedStop => relock d (enterDoor d .closed s)
    | .openStop => enterDoor d .isOpen s
  else positionChanged d wasAtZero s

/-- A change of an end-stop (R95), and the tests of R99, which a clearing brings too. -/
def endStopChange (d : Fin 2) (stop : EndStop) (asserted : Bool) (s : State) : State :=
  let x := s.door d
  if endStopLevel x.inputs stop = asserted then s
  else
    let was := closedAtZero s d
    let s := s.withDoor d { x with inputs := setEndStop x.inputs asserted stop }
    if asserted then endStopAsserted d stop was s else leaveClosed d was (testTravel d s)

def execEndStopChange (d : Fin 2) (stop : EndStop) (asserted : Bool) (s : State) : Answer :=
  .next (endStopChange d stop asserted s)

/-! ### Safety edge and presence (R99, R103, R104, R107) -/

/-- The safety edge changes its level, and the current travel is tested (R99). -/
def safetyEdgeChange (d : Fin 2) (asserted : Bool) (s : State) : State :=
  let x := s.door d
  if x.inputs.safetyEdge = asserted then s
  else testStart d (s.withDoor d { x with inputs := { x.inputs with safetyEdge := asserted } })

def execSafetyEdgeChange (d : Fin 2) (asserted : Bool) (s : State) : Answer := .next (safetyEdgeChange d asserted s)

/-- Presence holds the hold-open timer at 0, and its clearing starts the timer from 0 if the conditions then hold (R107). -/
def presenceChange (d : Fin 2) (asserted : Bool) (s : State) : State :=
  let x := s.door d
  if x.inputs.presence = asserted then s
  else
    let y := { x with inputs := { x.inputs with presence := asserted } }
    if asserted then s.withDoor d { y with holdOpen := y.holdOpen.map fun _ => 0 }
    else s.withDoor d (y.startHold (s.doorCfg d))

def execPresenceChange (d : Fin 2) (asserted : Bool) (s : State) : Answer := .next (presenceChange d asserted s)

/-! ### Buttons (R102, R105) -/

def sourceOfSide : EscapeSide → EscapeSource
  | .tunnel => .tunnelButton
  | .passage => .passageButton

def setEscapeButton (p : DoorPins) (b : Bool) : EscapeSide → DoorPins
  | .tunnel => { p with tunnelButton := b }
  | .passage => { p with passageButton := b }

/-- A press brings the side's source (R105), one given while the level is asserted again; letting the button go changes its
level alone (log entry 20). -/
def escapeButtonPress (d : Fin 2) (side : EscapeSide) (pressed : Bool) (s : State) : State :=
  let s := s.withDoor d { s.door d with inputs := setEscapeButton (s.door d).inputs pressed side }
  if pressed then arrive d (sourceOfSide side) s else s

def execEscapeButtonPress (d : Fin 2) (side : EscapeSide) (pressed : Bool) (s : State) : Answer :=
  .next (escapeButtonPress d side pressed s)

def setServiceButton (p : DoorPins) (b : Bool) : DoorDir → DoorPins
  | .toOpen => { p with serviceOpen := b }
  | .toClose => { p with serviceClose := b }

/-- A service HOLD travel (R102). -/
def serviceTravel (dir : DoorDir) : Travel :=
  { dir := dir, mode := .hold, given := none, target := none, reason := .service, forced := false }

/-- A press acts on a door at rest in any state but FAULT and INACTIVE, while MAINT is asserted; a press of service
CLOSE acts only while the escape-request set is empty (R102). -/
def serviceActs (s : State) (d : Fin 2) (dir : DoorDir) : Bool :=
  let x := s.door d
  s.maint.asserted && !travelling x.state && x.state != .fault && x.state != .inactive &&
    (dir == .toOpen || !x.escape.active)

/-- The press of a service button, which tests the current travel where it starts none (R99, R102); one given while the button's
level is asserted is a press again (log entry 20). -/
def serviceButtonPress (d : Fin 2) (dir : DoorDir) (s : State) : State :=
  let s := s.withDoor d { s.door d with inputs := setServiceButton (s.door d).inputs true dir }
  if serviceActs s d dir then startTravel d (serviceTravel dir) s else testTravel d s

def execServiceButtonPress (d : Fin 2) (dir : DoorDir) (s : State) : Answer := .next (serviceButtonPress d dir s)

/-- Letting go of the service button ends a HOLD travel of its direction RELEASED (R99, R102). -/
def serviceButtonRelease (d : Fin 2) (dir : DoorDir) (s : State) : State :=
  testTravel d (s.withDoor d { s.door d with inputs := setServiceButton (s.door d).inputs false dir })

def execServiceButtonRelease (d : Fin 2) (dir : DoorDir) (s : State) : Answer := .next (serviceButtonRelease d dir s)

/-! ### Timers (log entry 2: the command is the moment at which the running timer reaches its limit) -/

/-- The settle expiry of UNLOCKING (R98). -/
def settleExpiry (d : Fin 2) (s : State) : State :=
  let x := s.door d
  if x.state = .unlocking ∧ x.settle.isSome = true then
    if x.travel.any fun t => t.dir == .toClose then testStart d (runMotor d .toClose s)
    else testStart d (pressureCheck d s)
  else s

def execSettleExpiry (d : Fin 2) (s : State) : Answer := .next (settleExpiry d s)

/-- The travel timer reaches the travel time limit (R99, R111). -/
def travelTimeout (d : Fin 2) (s : State) : State :=
  let x := s.door d
  if (x.motorOpen || x.motorClose) && x.travelTimer.isSome then endTravel d .timedOut s else s

def execTravelTimeout (d : Fin 2) (s : State) : Answer := .next (travelTimeout d s)

/-- The AUTO_RECLOSE travel (R108). -/
def recloseTravel : Travel :=
  { dir := .toClose, mode := .full, given := none, target := none, reason := .autoReclose, forced := false }

/-- The hold-open timer runs: started, its conditions holding, the presence input clear (R107). -/
def Door.holdRuns (cfg : DoorSettings) (x : Door) : Bool := x.holdOpen.isSome && x.mayReclose cfg && !x.inputs.presence

/-- The hold-open timer reaches the hold-open time (R107, R108). -/
def holdOpenExpiry (d : Fin 2) (s : State) : State :=
  if (s.door d).holdRuns (s.doorCfg d) then startTravel d recloseTravel s else s

def execHoldOpenExpiry (d : Fin 2) (s : State) : Answer := .next (holdOpenExpiry d s)

/-- The reopen timer reaches 2 s: the escape is taken as if a request had just arrived (R104). -/
def reopenExpiry (d : Fin 2) (s : State) : State :=
  let x := s.door d
  if x.reopen.isSome then
    let s := s.withDoor d { x with reopen := none }
    if x.escape.active then escapeActs d s else s
  else s

def execReopenExpiry (d : Fin 2) (s : State) : Answer := .next (reopenExpiry d s)

/-! ### Relief (R121 to R124) -/

/-- The step of 100 ms at which a relief timer that stands at `t` ms reaches a limit in s: the limit itself, or the next step
where the limit has been lowered below the time already run (R122, R123). -/
def stepReaching (limit t : Nat) : Nat := max (limit * 1000) ((t / 100 + 1) * 100)

/-- Relief ends at the step of the relief timer that reaches `limit` s. -/
def reliefEndsAt (d : Fin 2) (limit : Nat) (outcome : ReliefOutcome) (s : State) : State :=
  testStart d (endRelief d outcome
    (s.withDoor d { s.door d with reliefTimer := (s.door d).reliefTimer.map (stepReaching limit) }))

/-- Blind relief ends at the step that reaches the blind relief time, unless an earlier one reaches the relief timeout
(R123). -/
def blindEndsFirst (cfg : DoorSettings) (x : Door) : Bool :=
  !x.observedUsable && x.reliefTimer.any fun t => stepReaching cfg.blindTime t ≤ stepReaching cfg.reliefTimeout t

/-- The relief timer reaches the relief timeout: TIMEOUT, or BLIND where the blind relief time was reached with it or
before (R122, R123). -/
def reliefTimeout (d : Fin 2) (s : State) : State :=
  let cfg := s.doorCfg d
  if (s.door d).state = .relieving ∧ (s.door d).reliefTimer.isSome = true then
    if blindEndsFirst cfg (s.door d) then reliefEndsAt d cfg.blindTime .blind s
    else reliefEndsAt d cfg.reliefTimeout .timeout s
  else s

def execReliefTimeout (d : Fin 2) (s : State) : Answer := .next (reliefTimeout d s)

/-- The relief timer reaches the blind relief time while the last observation found no usable average (R123). -/
def blindReliefExpiry (d : Fin 2) (s : State) : State :=
  let cfg := s.doorCfg d
  if (s.door d).state = .relieving ∧ (s.door d).reliefTimer.isSome = true ∧ blindEndsFirst cfg (s.door d) = true then
    reliefEndsAt d cfg.blindTime .blind s
  else s

def execBlindReliefExpiry (d : Fin 2) (s : State) : Answer := .next (blindReliefExpiry d s)

/-- A RELIEVING door observes its relief channel after a sample instant (R121, R123). -/
def observeRelief (c : Fin 8) (d : Fin 2) (s : State) : State :=
  let x := s.door d
  let ch := s.channel c
  if x.state = .relieving ∧ x.reliefChannel = some c then
    let s := s.withDoor d { x with lastObserved := ch.average, observedUsable := ch.usable }
    if ch.usable then
      if ch.atMost (s.doorCfg d).pressureLimit then testStart d (endRelief d .pressureOk s) else s
    else if x.reliefTimer.any fun t => (s.doorCfg d).blindTime * 1000 ≤ t then testStart d (endRelief d .blind s)
    else s
  else s

end Sys2Proof.Machine
end

