-- ==== Sys2Proof/Machine/Channels.lean ====
section
/-! DEFINITION. The measurement channels (chapter 1), the alarm levels and the demand stage (chapter 2), and the
sample instant that runs through both. -/

namespace Sys2Proof.Machine

/-! ### Conversion, loop check, calibration (R3, R4, R10, R11) -/

/-- The raw code of a loop current in µA: 160 per mA, rounded down, 4000 from 25 mA (R3). -/
def rawCodeOf (current : Nat) : Nat := min 4000 (160 * current / 1000)

/-- The fault of a raw code, if it is faulted (R4). -/
def loopFault (r : Nat) : Option LoopCause :=
  if r < 576 then some .loopLow else if 3360 < r then some .loopHigh else none

/-- The calibrated value before clamping: exact, floor division (R10). -/
def calibrate (cfg : ChannelConfig) (r : Nat) : Int := (((r : Int) - cfg.zero) * cfg.span + 2048) / 4096

/-- The value clamped to the range of the kind (R11). -/
def clampToKind (k : ChannelKind) (c : Int) : Int := max (kindLow k) (min c kindHigh)

/-- The clamp of this value sets LIMITED: at the upper bound for every kind, at the lower for a signed kind (R11). -/
def setsLimited (k : ChannelKind) (c : Int) : Bool := kindHigh < c || (!isGas k && c < -32768)

/-! ### Window and average (R13, R14, R16) -/

/-- The rounded mean of `n` values whose sum is `sum` (R14). -/
def meanOf (sum : Int) (n : Nat) : Int := (sum + (n / 2 : Nat)) / (n : Int)

/-- Emptying a window (R16). -/
def Channel.emptied (x : Channel) : Channel :=
  { x with
    slots := List.replicate x.inForce.window 0
    writeIndex := 0
    fill := 0
    sum := 0
    average := none
    state := match x.state with
      | .warming | .valid => .warming
      | .fault => .fault
      | .inactive => .inactive }

/-- The entry of a calibrated value, and the new average (R13, R14). -/
def Channel.entered (x : Channel) (v : Int) : Channel :=
  let w := x.inForce.window
  let dropped := if x.fill = w then x.slots.getD x.writeIndex 0 else 0
  let fill := if x.fill < w then x.fill + 1 else x.fill
  let sum := x.sum - dropped + v
  { x with
    slots := x.slots.set x.writeIndex v
    writeIndex := (x.writeIndex + 1) % w
    fill := fill
    sum := sum
    average := some (meanOf sum fill) }

/-- WARMING below a full window, VALID with one (R15). -/
def Channel.settled (x : Channel) : Channel := { x with state := if x.fill < x.inForce.window then .warming else .valid }

/-! ### The sample (R2, R5 to R9, R17) -/

def configOf (p : ChannelSettings) : ChannelConfig := { kind := p.kind, zero := p.zero, span := p.span, window := p.window }

/-- Zero, span, kind and W taken into force, and the window emptied (R16, R17, R19). -/
def Channel.reconfigured (p : ChannelSettings) (x : Channel) : Channel := { x with inForce := configOf p }.emptied

/-- What a channel hands the demand unit (R20). -/
inductive SampleOutcome where
  | newAverage (recovered : Bool)
  | noAverage
  | faultEntry (cause : LoopCause)
  | nothing
  deriving DecidableEq, Repr

/-- A valid sample: calibrated, entered, averaged; it brings a channel out of FAULT (R8, R9, R10 to R15). -/
def Channel.validSample (x : Channel) (r : Nat) : Channel :=
  let c := calibrate x.inForce r
  let v := clampToKind x.inForce.kind c
  let y := if x.state = .fault then x.emptied else x
  { y with
    faultRun := 0
    calibrated := v
    limited := y.limited || setsLimited x.inForce.kind c }.entered v |>.settled

/-- A faulted sample (R5, R6, R7). -/
def Channel.faultedSample (x : Channel) (persistence : Nat) (cause : LoopCause) : Channel × SampleOutcome :=
  let y := { x with faultRun := min 255 (x.faultRun + 1) }
  if x.state = .fault then (y, .nothing)
  else if persistence ≤ y.faultRun then ({ y with state := .fault }, .faultEntry cause)
  else (y, .noAverage)

/-- One sample of an active channel, in the stages of R2. -/
def Channel.sample (p : ChannelSettings) (current : Nat) (x : Channel) : Channel × SampleOutcome :=
  let x := if x.inForce = configOf p then x else x.reconfigured p
  let r := rawCodeOf current
  let x := { x with rawCode := r }
  match loopFault r with
  | some cause => x.faultedSample p.faultPersistence cause
  | none => (x.validSample r, .newAverage (x.state == .fault))

/-! ### The demand stage (R34, R35, R38) -/

/-- A channel contributes while it is active and its contribution flag is 1 (R34). -/
def contributing (s : State) (c : Fin 8) : Bool := (s.channel c).state != .inactive && (s.channelCfg c).contributes

/-- The demand stage as R34 forms it. -/
def demandStage (s : State) : Nat :=
  allChannels.foldl (fun m c => if contributing s c then max m (s.channel c).level else m) s.demand.floor

/-- The stage recomputed: a new value is set and reported, and reaches the fans in AUTO (R35, R38, R43). The DEMAND report stands
before every report of a fan that the new stage reaches (log entry 42). -/
def recomputeDemand (s : State) : State :=
  let stage := demandStage s
  if stage = s.demand.stage then s
  else
    let s := report 0 (.demand stage s.demand.floor) (s.withDemand { s.demand with stage := stage })
    if s.modes.mode = .auto then takeInAnyOrder allFans refreshAuto s else s

/-! ### Alarm levels (R24 to R31) -/

/-- Threshold T(n) of a channel, for n from 1 to 3. -/
def threshold (p : ChannelSettings) : Nat → Int
  | 1 => p.t1
  | 2 => p.t2
  | _ => p.t3

/-- The up count after the rising test (R25). -/
def risingCount (p : ChannelSettings) (x : Channel) (a : Int) : Nat :=
  if x.level < 3 ∧ threshold p (x.level + 1) ≤ a then x.upCount + 1 else 0

/-- The down count after the falling test (R26). -/
def fallingCount (p : ChannelSettings) (x : Channel) (a : Int) : Nat :=
  if 0 < x.level ∧ a < threshold p x.level - p.hysteresis then x.downCount + 1 else 0

/-- One evaluation (R27). -/
def Channel.evaluated (p : ChannelSettings) (a : Int) (x : Channel) : Channel :=
  let up := risingCount p x a
  let down := fallingCount p x a
  if p.upPersistence ≤ up then { x with level := x.level + 1, upCount := 0, downCount := 0 }
  else if p.downPersistence ≤ down then { x with level := x.level - 1, upCount := 0, downCount := 0 }
  else { x with upCount := up, downCount := down }

/-- The report of a level that differs from `before`, and the demand stage recomputed where the channel contributes
(R28, R35). -/
def levelChanged (before : Nat) (c : Fin 8) (s : State) : State :=
  let x := s.channel c
  if x.level = before then s
  else
    let s := report (channelUnit c) (.level x.level x.average) s
    if contributing s c then recomputeDemand s else s

/-- The demand unit takes a channel's new average (R24). -/
def evaluateLevel (c : Fin 8) (s : State) : State :=
  let x := s.channel c
  match x.average with
  | some a => levelChanged x.level c (s.withChannel c (x.evaluated (s.channelCfg c) a))
  | none => s

/-- The level set directly, both counts cleared (R29, R30, R33). -/
def setLevel (c : Fin 8) (n : Nat) (s : State) : State :=
  let x := s.channel c
  levelChanged x.level c (s.withChannel c { x with level := n, upCount := 0, downCount := 0 })

/-! ### The sample instant (R2, R20) -/

/-- What the channel's outcome does at the report queue and the demand unit. -/
def handOutcome (c : Fin 8) (o : SampleOutcome) (s : State) : State :=
  match o with
  | .newAverage recovered =>
    evaluateLevel c (if recovered then report (channelUnit c) .channelRecovered s else s)
  | .noAverage => s
  | .faultEntry cause =>
    setLevel c (s.channelCfg c).substitute (report (channelUnit c) (.channelFault cause) s)
  | .nothing => s

/-- The sample of an active channel and what follows from it at the demand unit. -/
def takeSample (c : Fin 8) (current : Nat) (s : State) : State :=
  if (s.channel c).state = .inactive then s
  else
    let r := (s.channel c).sample (s.channelCfg c) current
    handOutcome c r.2 (s.withChannel c r.1)

/-- The doors that are RELIEVING on channel `c`. -/
def observers (s : State) (c : Fin 8) : List (Fin 2) :=
  allDoors.filter fun d => (s.door d).state == .relieving && (s.door d).reliefChannel == some c

/-- A sample instant: the sample, then the doors that observe the channel, in any order (R2, R20, R121). -/
def sampleInstant (c : Fin 8) (current : Nat) (s : State) : State :=
  let s := takeSample c current s
  takeInAnyOrder (observers s c) (observeRelief c) s

def execSampleInstant (c : Fin 8) (current : Nat) (s : State) : Answer := .next (sampleInstant c current s)

end Sys2Proof.Machine
end

