-- ==== Sys2Proof/Machine/Modes.lean ====
section
/-! DEFINITION. The mode controller (chapter 8): entering and leaving the modes, the engagement of scenarios, door
policies, start delays, line loss. -/

namespace Sys2Proof.Machine

/-! ### MODE reports and MANUAL (R130 to R132) -/

/-- The MODE report of the mode and scenario now in force (R130). -/
def reportMode (cause : ModeCause) (tag : Nat) (s : State) : State :=
  report 0 (.mode s.modes.mode s.modes.engaged cause tag) s

/-- Every MANUAL setpoint discarded (R44). -/
def discardSetpoints (s : State) : State :=
  takeEach allFans (fun f s => s.withFan f { s.fan f with setpoint := none }) s

/-- MANUAL from AUTO: every setpoint absent, every target as it is (R44, R131). -/
def enterManual (s : State) : State :=
  reportMode .setMode 0 (discardSetpoints (s.withModes { s.modes with mode := .manual }))

/-- MANUAL left for AUTO (R132). -/
def leaveManual (cause : ModeCause) (s : State) : State :=
  let s := reportMode cause 0 (s.withModes { s.modes with mode := .auto })
  takeInAnyOrder allFans refreshAuto (discardSetpoints s)

/-! ### Scenario records (R133) -/

/-- The entry of a record for a fan. -/
def ScenarioRecord.fanEntry (r : ScenarioRecord) (f : Fin 4) : Option FanEntry := r.fans.find? fun e => e.fan == f

/-- The policy of a record for a door; a door without an entry is under KEEP. -/
def ScenarioRecord.doorPolicy (r : ScenarioRecord) (d : Fin 2) : DoorPolicy :=
  ((r.doors.find? fun e => e.door == d).map (·.policy)).getD .keep

/-- Record `n` of the table, for n from 1 to 15. -/
def Settings.scenario (p : Settings) (n : Nat) : ScenarioRecord :=
  ((indexOf 15 (n - 1)).map fun i => p.scenarios[i]).getD .empty

/-- The entry of the engaged record for a fan. -/
def engagedEntry (s : State) (f : Fin 4) : Option FanEntry := s.modes.record.bind fun r => r.fanEntry f

/-! ### Start delays (R137, R138) -/

/-- The start delay timer an entry gets at the engagement: a delay of 0 expires at once (R137). -/
def delayOf : Option FanEntry → Delay
  | none => .absent
  | some e => if e.delay = 0 then .expired else .running 0

/-- The mode target of a fan in INCIDENT: its entry once the delay has expired, else its frozen target (R137, R138). -/
def incidentTarget (s : State) (f : Fin 4) : Target :=
  match engagedEntry s f, s.modes.delays[f] with
  | some e, .expired => { dir := e.dir, speed := e.speed }
  | _, _ => (s.modes.frozen.map fun v => v[f]).getD (s.fan f).modeTarget

def refreshIncident (f : Fin 4) (s : State) : State := setModeTarget f (incidentTarget s f) s

/-- A running start delay expires: the entry becomes the fan's mode target (R137; log entry 2). -/
def startDelayExpiry (f : Fin 4) (s : State) : State :=
  match s.modes.delays[f] with
  | .running _ => refreshIncident f (s.withModes { s.modes with delays := s.modes.delays.set f .expired })
  | _ => s

def execStartDelayExpiry (f : Fin 4) (s : State) : Answer := .next (startDelayExpiry f s)

/-! ### Door policies (R139) -/

/-- The application of a policy (R139, R109). -/
def applyPolicy (p : DoorPolicy) (d : Fin 2) (s : State) : State :=
  match p with
  | .openHold => arrive d .scenario s
  | .unlock =>
    let s := s.withDoor d { s.door d with unlockPolicy := true }
    if (s.door d).state = .closedLocked then enterDoor d .closed s else s
  | .keep => s

/-- The removal of a policy (R139, R109). -/
def removePolicy (p : DoorPolicy) (d : Fin 2) (s : State) : State :=
  match p with
  | .openHold => removeSource d .scenario s
  | .unlock => relock d (s.withDoor d { s.door d with unlockPolicy := false })
  | .keep => s

/-- The policy the engaged record gives a door; KEEP where no record is engaged. -/
def engagedPolicy (r : Option ScenarioRecord) (d : Fin 2) : DoorPolicy :=
  match r with
  | some r => r.doorPolicy d
  | none => .keep

/-- The policies that differ between two records: all removals, then the applications (R136 step 6, R140 step 3, R141
step 3). A door under the same policy in both sees neither. -/
def changePolicies (old new : Option ScenarioRecord) (s : State) : State :=
  let changed := allDoors.filter fun d => engagedPolicy old d != engagedPolicy new d
  let s := takeInAnyOrder changed (fun d => removePolicy (engagedPolicy old d) d) s
  takeInAnyOrder changed (fun d => applyPolicy (engagedPolicy new d) d) s

/-! ### Lockout and credit waits at an engagement (R59, R90) -/

/-- A lockout cleared: trip count 0, cause none, memory clear, OFF with the target re-applied, one report (R59). -/
def clearLockout (f : Fin 4) (s : State) : State :=
  let s := s.withFan f { s.fan f with tripCount := 0, lastTrip := .noTrip, lockoutMemory := false }
  serve (reportFanChange .lockedOut f .clear (enterOff f s))

/-- A LOCKED_OUT fan with an entry in the engaged record is cleared (R136, step 4). -/
def clearIfEntered (f : Fin 4) (s : State) : State :=
  if (s.fan f).state = .lockedOut ∧ (engagedEntry s f).isSome = true then clearLockout f s else s

/-- Outside INCIDENT, a fan on the waiting list with no credit leaves it for CREDIT_WAIT (R90, R141). -/
def waitForCredit (f : Fin 4) (s : State) : State :=
  if s.arbiter.waiting[f] ∧ (s.fan f).credits = 0 then
    (s.withArbiter { s.arbiter with waiting := s.arbiter.waiting.set f false }).withFan f
      { s.fan f with creditWait := true }
  else s

/-- A fan in CREDIT_WAIT joins the waiting list, and is served (R90, R136 step 5). -/
def joinInIncident (f : Fin 4) (s : State) : State :=
  if (s.fan f).creditWait then
    serve ((s.withArbiter { s.arbiter with waiting := s.arbiter.waiting.set f true }).withFan f
      { s.fan f with creditWait := false })
  else s

/-! ### Engagement, re-engagement, leaving INCIDENT (R136, R140, R141) -/

/-- INCIDENT with scenario `n`: its record copied, the start delays begun, the armed record cleared by an ENGAGE; the MODE
report (R136 steps 2 and 3, R140 steps 1, 2 and 4). -/
def engageRecord (n : Nat) (cause : ModeCause) (tag : Nat) (s : State) : State :=
  let r := s.settings.scenario n
  reportMode cause tag (s.withModes { s.modes with
    mode := .incident
    engaged := n
    record := some r
    delays := #v[delayOf (r.fanEntry 0), delayOf (r.fanEntry 1), delayOf (r.fanEntry 2), delayOf (r.fanEntry 3)]
    armed := if cause = .engage then none else s.modes.armed })

/-- The mode target each fan holds. -/
def heldTargets (s : State) : Vector Target 4 :=
  #v[(s.fan 0).modeTarget, (s.fan 1).modeTarget, (s.fan 2).modeTarget, (s.fan 3).modeTarget]

/-- The frozen targets: the mode target each fan holds (R136 step 1, R126). -/
def freezeTargets (s : State) : State := s.withModes { s.modes with frozen := some (heldTargets s) }

/-- An engagement from AUTO or MANUAL (R136). -/
def engageFirst (n : Nat) (cause : ModeCause) (tag : Nat) (s : State) : State :=
  let s := engageRecord n cause tag (discardSetpoints (freezeTargets s))
  let s := takeInAnyOrder allFans refreshIncident s
  let s := takeInAnyOrder allFans clearIfEntered s
  let s := takeInAnyOrder allFans joinInIncident s
  changePolicies none s.modes.record s

/-- A re-engagement in INCIDENT (R140). -/
def engageAgain (n : Nat) (cause : ModeCause) (tag : Nat) (s : State) : State :=
  let old := s.modes.record
  let s := engageRecord n cause tag s
  let s := changePolicies old s.modes.record s
  let s := takeInAnyOrder allFans refreshIncident s
  takeInAnyOrder allFans clearIfEntered s

/-- A RUNNING fan is judged afresh when INCIDENT is left (R75, R141 step 6). -/
def restartVerify (f : Fin 4) (s : State) : State :=
  if (s.fan f).state = .running then s.withFan f { s.fan f with verifyTimer := some 0 } else s

/-- INCIDENT left for AUTO (R141). A slot that a target change of step 4 frees goes at once to the next request, a waiting fan with
0 credits included, since step 5 has not been taken yet (log entry 44). -/
def leaveIncident (cause : ModeCause) (tag : Nat) (s : State) : State :=
  let old := s.modes.record
  let s := reportMode cause tag (s.withModes { s.modes with
    mode := .auto, engaged := 0, record := none, delays := Vector.replicate 4 .absent, frozen := none })
  let s := changePolicies old none s
  let s := takeInAnyOrder allFans refreshAuto s
  takeEach allFans restartVerify (takeEach allFans waitForCredit s)

/-- An engagement of scenario `n`, 0 to 15, in the present mode (R136, R140, R141). -/
def engageScenario (n : Nat) (cause : ModeCause) (tag : Nat) (s : State) : State :=
  if n = 0 then
    if s.incident then leaveIncident cause tag s else s
  else if s.incident then engageAgain n cause tag s
  else engageFirst n cause tag s

/-! ### Line loss (R145) -/

/-- The link timeout expires (R145). -/
def linkExpires (s : State) : State :=
  let s := report 0 (.link false) (s.withModes { s.modes with linkTimer := none, lineLost := true })
  if s.modes.mode = .manual then leaveManual .lineLost s else s

/-- The moment at which the running link timer reaches the link timeout (R145; log entry 2). -/
def linkTimeout (s : State) : State := if s.modes.linkTimer.isSome then linkExpires s else s

def execLinkTimeout (s : State) : Answer := .next (linkTimeout s)

/-- A valid frame: the link timer restarts from 0, and a lost line is restored (R145). -/
def linkAlive (s : State) : State :=
  if s.modes.lineLost then
    report 0 (.link true) (s.withModes { s.modes with linkTimer := some 0, lineLost := false })
  else s.withModes { s.modes with linkTimer := some 0 }

end Sys2Proof.Machine
end

