-- ==== Sys2Proof/Machine/HardLines.lean ====
section
/-! DEFINITION. The hardwired lines STOP, ESCAPE and MAINT (chapter 9): each change of a filtered state. -/

namespace Sys2Proof.Machine

/-- A change of a filtered state: the settle time is stopped (R147). -/
def HardLine.taken (b : Bool) : HardLine := { asserted := b, settle := none }

/-! ### STOP (R148 to R150) -/

/-- The assertion of STOP at one fan (R148). -/
def stopFan (f : Fin 4) (s : State) : State :=
  match (s.fan f).state with
  | .awaitGrant => reportFan f .stopLine (s.withFan f ((s.fan f).outputsOff .off))
  | .starting | .running | .stopping => reportFan f .stopLine (s.withFan f ((s.fan f).outputsOff .coasting))
  | .off | .coasting | .tripped | .lockedOut | .inactive => s

/-- STOP becomes asserted: every grant released and both lists emptied, then each fan by its state (R148). -/
def stopAsserted (s : State) : State :=
  if s.stop.asserted then s
  else
    let s := report 0 (.line .stop true) { s with stop := .taken true }
    takeInAnyOrder allFans stopFan (takeEach allFans leaveArbiter s)

def execStopAsserted (s : State) : Answer := .next (stopAsserted s)

/-- A fan in OFF takes its present target when starts are permitted again (R150, R151). -/
def resumeFan (cause : FanCause) (f : Fin 4) (s : State) : State :=
  if (s.fan f).state = .off then serve (reportFanChange .off f cause (reapply f s)) else s

/-- STOP becomes released (R150). -/
def stopReleased (s : State) : State :=
  if s.stop.asserted then
    let s := report 0 (.line .stop false) { s with stop := .taken false }
    if s.ctl.autoResume then takeInAnyOrder allFans (resumeFan .stopLine) s
    else takeEach allFans (fun f s => s.withFan f { s.fan f with held := true }) s
  else { s with stop := .taken false }

def execStopReleased (s : State) : Answer := .next (stopReleased s)

/-! ### ESCAPE (R152) -/

/-- ESCAPE becomes asserted: the source arrives at every active door (R152). -/
def escapeAsserted (s : State) : State :=
  if s.escape.asserted then s
  else takeInAnyOrder allDoors (fun d => arrive d .escapeLine) (report 0 (.line .escape true) { s with escape := .taken true })

def execEscapeAsserted (s : State) : Answer := .next (escapeAsserted s)

/-- ESCAPE becomes released: the source leaves the set of every door that holds it (R152). -/
def escapeReleased (s : State) : State :=
  if s.escape.asserted then
    takeInAnyOrder allDoors (fun d => removeSource d .escapeLine)
      (report 0 (.line .escape false) { s with escape := .taken false })
  else { s with escape := .taken false }

def execEscapeReleased (s : State) : Answer := .next (escapeReleased s)

/-! ### MAINT (R153, R154) -/

def maintAsserted (s : State) : State :=
  if s.maint.asserted then s else report 0 (.line .maint true) { s with maint := .taken true }

def execMaintAsserted (s : State) : Answer := .next (maintAsserted s)

/-- The release of MAINT at the mode controller (R154). -/
def maintLeavesManual (s : State) : State := if s.modes.mode = .manual then leaveManual .maintReleased s else s

/-- The release of MAINT at a door: a HOLD or STEP record leaves the slot, then a current HOLD travel ends RELEASED and a
current STEP travel ABORTED (R154). -/
def maintAtDoor (d : Fin 2) (s : State) : State :=
  let s := if (s.door d).slot.any fun t => t.mode != .full then clearSlot d s else s
  match (s.door d).travel with
  | some t =>
    match t.mode with
    | .hold => endTravel d .released s
    | .step => endTravel d .aborted s
    | .full => s
  | none => s

/-- MAINT becomes released: the mode controller and the two doors take it, each as one event, in any order (R154). -/
def maintReleased (s : State) : State :=
  if s.maint.asserted then
    takeInAnyOrder [none, some 0, some 1]
      (fun b => match b with
        | none => maintLeavesManual
        | some d => maintAtDoor d)
      (report 0 (.line .maint false) { s with maint := .taken false })
  else { s with maint := .taken false }

def execMaintReleased (s : State) : Answer := .next (maintReleased s)

end Sys2Proof.Machine
end

