-- ==== Sys2Proof/Machine/Store.lean ====
section
/-! DEFINITION. The settings store: the end of a SAVE write, a write cut short, the loading of the working settings
(R175, R178), and the credit rules that a reset and a parameter write share (R89, R92). -/

namespace Sys2Proof.Machine

/-! ### The stored copy (R175, R178) -/

/-- What a loading takes: the stored settings where their check value holds, else the factory defaults (R178). -/
def Store.loaded (t : Store) : Settings := if t.storedValid then t.stored else .factory

/-- The check of a torn copy: nothing outside the parameter ranges has a check value that holds (log entry 10). -/
def tornError (p : Settings) (check : BitVec 16) : BitVec 16 := if p.inRange || check != 0 then check else 1

/-- A stored copy left as a write left it, free in its contents and its check value (R175; log entry 10). -/
def Store.torn (t : Store) (k : Nat) : Store :=
  { t with
    stored := Config.tornSettings k
    checkError := tornError (Config.tornSettings k) (Config.tornCheck k)
    snapshot := none }

/-- The end of the write of snapshot `p` (R175). -/
def Store.written (t : Store) (p : Settings) (agrees : Bool) (k : Nat) : Store :=
  if agrees then { t with stored := p, checkError := 0, snapshot := none } else t.torn k

/-- The end of the write under way, with its STORE report (R175). -/
def finishWrite (agrees : Bool) (s : State) : State :=
  match s.store.snapshot with
  | some p => report 0 (.store (!agrees)) ((s.withStore (s.store.written p agrees s.choice)).nextChoice)
  | none => s

def execSaveComplete (agrees : Bool) (s : State) : Answer := .next (finishWrite agrees s)

/-! ### Credits under a new maximum or a new interval (R89, R92) -/

/-- The count and the timer under the maximum credits of `cfg`: a count above it is clamped, the timer stops at the
maximum, and starts from 0 below it (R89). -/
def Fan.creditsUnder (cfg : FanSettings) (x : Fan) : Fan :=
  { x with
    credits := min x.credits cfg.maxCredits
    creditTimer :=
      if cfg.maxCredits ≤ x.credits then none
      else if x.creditTimer.isNone then some 0
      else x.creditTimer }

/-- The credit timer has reached the credit interval (R89). -/
def creditDue (cfg : FanSettings) (x : Fan) : Bool := x.creditTimer.any fun t => cfg.creditInterval * 60000 ≤ t

/-- One credit for a timer at or past the interval (R89). -/
def Fan.intervalTested (cfg : FanSettings) (x : Fan) : Fan := if creditDue cfg x then x.regenerate cfg else x

end Sys2Proof.Machine
end

