-- ==== Sys2Proof/Machine/Reset.lean ====
section
/-! DEFINITION. Power-on reset and warm reset (R178, R179): what each block starts with, and what a warm reset keeps. -/

namespace Sys2Proof.Machine

/-! ### The blocks' starting values -/

/-- A channel after either reset (R22, R23, R39). -/
def Channel.started (p : ChannelSettings) : Channel :=
  { state := if p.active then .warming else .inactive
    inForce := configOf p
    rawCode := 0
    calibrated := 0
    slots := List.replicate p.window 0
    writeIndex := 0
    fill := 0
    sum := 0
    average := none
    limited := false
    faultRun := 0
    level := 0
    upCount := 0
    downCount := 0 }

/-- A tach input after either reset, its pin at the level the reset finds (R78). -/
def Tach.started (p : FanSettings) (pin : Bool) : Tach :=
  { prescale := p.prescale, filterN := p.filterN, pulses := p.pulsesPerRev, pin := pin, level := false, disagreement := 0,
    prescaleCount := 0, periodAge := none, lastPeriod := none, rpm := 0, timeout := none }

/-- A fan after a power-on reset, its target not yet composed (R64, R92). -/
def Fan.started (p : FanSettings) (fault tachPin : Bool) : Fan :=
  { state := if p.active then .coasting else .inactive
    latched := p.defaultDir
    target := { dir := p.defaultDir, speed := 0 }
    modeTarget := { dir := p.defaultDir, speed := 0 }
    setpoint := none
    reference := 0
    offTime := 0
    standstill := 0
    startTimer := none
    limitUntested := false
    verifyTimer := none
    stallNoted := false
    credits := p.maxCredits
    creditTimer := none
    tripCount := 0
    lastTrip := .noTrip
    lockoutMemory := false
    creditWait := false
    suspended := false
    held := false
    faultInput := fault
    tach := Tach.started p tachPin }

/-- A fan after a warm reset, its target not yet composed: credits with their timer, the trips and the lockout memory are
kept, and the FAULT input takes the level of its pin (R42, R65, R92). -/
def Fan.restarted (p : FanSettings) (fault tachPin : Bool) (x : Fan) : Fan :=
  let y := Fan.started p fault tachPin
  let kept := { y with
    credits := x.credits
    creditTimer := x.creditTimer
    tripCount := x.tripCount
    lastTrip := x.lastTrip
    lockoutMemory := x.lockoutMemory
    state := if p.active && x.lockoutMemory then .lockedOut else y.state }
  (kept.creditsUnder p).intervalTested p

/-- CLOSED_LOCKED or CLOSED by the lock policy; no UNLOCK policy is engaged after a reset (R117, R118). -/
def closedStateOf (p : DoorSettings) : DoorState :=
  match p.lockPolicy with
  | .lockedWhenClosed => .closedLocked
  | .never => .closed

/-- A door at rest with everything but its state, position and homed flag at its power-on value (R117). -/
def Door.started (p : DoorSettings) (st : DoorState) (position : Int) (homed : Bool) (pins : DoorPins) : Door :=
  { state := st, position := position, homed := homed, travel := none, slot := none, escape := .empty, settle := none,
    travelTimer := none, holdOpen := none, reopen := none, retry := p.retries, recloseSuspended := false,
    unlockPolicy := false, creep := false, reliefTimer := none, reliefChannel := none, lastObserved := none,
    observedUsable := false, inputs := pins }

/-- A door after a power-on reset (R117). -/
def Door.poweredOn (p : DoorSettings) (pins : DoorPins) : Door :=
  Door.started p
    (if !p.active then .inactive else if pins.closedStop then closedStateOf p else .unhomed) 0 pins.closedStop pins

/-- The state of a door after a warm reset (R118). -/
def Door.restartState (p : DoorSettings) (x : Door) : DoorState :=
  if !p.active then .inactive
  else if !x.homed then .unhomed
  else if travelling x.state then .halted
  else if x.atZero p then closedStateOf p
  else if x.atOpen p then .isOpen
  else .halted

/-- A door after a warm reset, its inputs at the levels of their pins (R95), by which it is judged; one that is OPEN starts its
hold-open timer (R118). -/
def Door.restarted (p : DoorSettings) (pins : DoorPins) (x : Door) : Door :=
  (Door.started p ({ x with inputs := pins }.restartState p) x.position x.homed pins).startHold p

/-- The feed arbiter after either reset, its urgency not yet evaluated (R92). -/
def Arbiter.started : Arbiter :=
  { holders := [], waiting := Vector.replicate 4 false, suspended := [], rotation := none, urgency := false }

/-- The mode controller after either reset (R146). -/
def ModeControl.started : ModeControl :=
  { mode := .auto, engaged := 0, record := none, delays := Vector.replicate 4 .absent, frozen := none, armed := none,
    lineLost := false, linkTimer := some 0 }

/-- A hardwired line after either reset: released, the settle time of an asserted pin beginning (R147). -/
def HardLine.started (pin : Bool) : HardLine :=
  { asserted := false, settle := if pin then some 0 else none }

/-- The report queue after either reset (R172). -/
def ReportQueue.started (warm valid : Bool) : ReportQueue :=
  { records := [{ stamp := 0, unit := 0, data := .powerUp warm valid }], overflow := false, timeBase := 0 }

/-! ### The common end of both resets -/

/-- The target of a fan composed from its mode target and the doors, with no event at the fan (R64, R129). -/
def startTarget (f : Fin 4) (s : State) : State :=
  let s := s.withFan f { s.fan f with modeTarget := autoTarget s f }
  s.withFan f { s.fan f with target := composedTarget s f }

/-- The eight channels after either reset (R22, R23). -/
def startedChannels (p : Settings) : Vector Channel 8 :=
  #v[Channel.started p.channels[0], Channel.started p.channels[1], Channel.started p.channels[2],
     Channel.started p.channels[3], Channel.started p.channels[4], Channel.started p.channels[5],
     Channel.started p.channels[6], Channel.started p.channels[7]]

/-- Channels, demand unit, arbiter and mode controller started, every fan's target composed, and urgency evaluated: what
both resets share once the settings, the fans, the doors and the lines are in place (R178 step 5). -/
def startBlocks (s : State) : State :=
  let s := { s with
    channels := startedChannels s.settings
    demand := { stage := 0, floor := 0 }
    arbiter := Arbiter.started
    modes := ModeControl.started }
  let s := takeEach allFans startTarget s
  s.withArbiter { s.arbiter with urgency := urgencyHolds s }

/-! ### Power-on reset (R178) -/

/-- The station and its source, from the straps and the loaded settings (R155). -/
def stationOf (strap enumStation : Nat) : Option Nat × StationSource :=
  if strap ≠ 0 then (some strap, .strapped)
  else if enumStation ≠ 0 then (some enumStation, .enumerated)
  else (none, .unassigned)

/-- The line interface after a power-on reset (R155). -/
def LineInterface.started (straps : Straps) (serial : BitVec 48) (enumStation : Nat) : LineInterface :=
  let st := stationOf straps.station.val enumStation
  { bitRate := .ofCode straps.bitRate, strap := straps.station.val, serial := serial, station := st.1, source := st.2,
    enumState := .idle, receiver := .hunt, rxGap := none, reply := none, transmitting := false, resetRequested := false,
    sent := none }

/-- The stored copy a power-on reset finds: one whose write was under way is left as far as the write had come (R175). -/
def cutWrite (s : State) : State :=
  if s.store.busy then (s.withStore (s.store.torn s.choice)).nextChoice else s

def powerOnReset (straps : Straps) (pins : Pins) (s : State) : State :=
  let s := cutWrite s
  let p := s.store.loaded
  let valid := s.store.storedValid
  startBlocks { s with
    store := { s.store with working := p, lockLevel := 0, snapshot := none }
    line := LineInterface.started straps s.line.serial p.controller.enumStation
    reports := ReportQueue.started false valid
    fans := #v[Fan.started p.fans[0] pins.fault[0] pins.tach[0], Fan.started p.fans[1] pins.fault[1] pins.tach[1],
               Fan.started p.fans[2] pins.fault[2] pins.tach[2], Fan.started p.fans[3] pins.fault[3] pins.tach[3]]
    doors := #v[Door.poweredOn p.doors[0] pins.doors[0], Door.poweredOn p.doors[1] pins.doors[1]]
    stop := HardLine.started pins.stop
    escape := HardLine.started pins.escape
    maint := HardLine.started pins.maint }

def execPowerOnReset (straps : Straps) (pins : Pins) (s : State) : Answer := .next (powerOnReset straps pins s)

/-! ### Warm reset (R179) -/

/-- The enumerated station a warm reset writes into the reloaded working settings (R155). -/
def keptEnumStation (l : LineInterface) (reloaded : Nat) : Nat :=
  match l.source with
  | .strapped => reloaded
  | .enumerated => l.station.getD 0
  | .unassigned => 0

/-- The line interface after a warm reset: straps, station and source kept (R155, R166). -/
def LineInterface.restarted (l : LineInterface) : LineInterface :=
  { l with enumState := .idle, receiver := .hunt, rxGap := none, reply := none, transmitting := false,
           resetRequested := false }

/-- The reloaded working settings, with the station in use written back (R155, R179). -/
def reloaded (s : State) : Settings :=
  let p := s.store.loaded
  { p with controller := { p.controller with enumStation := keptEnumStation s.line p.controller.enumStation } }

/-- The write under way run to its end, its outcome free (R175; log entry 11). -/
def runWrite (s : State) : State := if s.store.busy then finishWrite (Config.writeAgrees s.choice) s else s

/-- The warm reset, which finds the pins at these levels at its end (R42, R78, R95, R118, R147, R179). -/
def warmReset (pins : Pins) (s : State) : State :=
  let s := runWrite s
  let p := reloaded s
  let valid := s.store.storedValid
  startBlocks { s with
    store := { s.store with working := p, snapshot := none }
    line := s.line.restarted
    reports := ReportQueue.started true valid
    fans := #v[Fan.restarted p.fans[0] pins.fault[0] pins.tach[0] (s.fan 0),
               Fan.restarted p.fans[1] pins.fault[1] pins.tach[1] (s.fan 1),
               Fan.restarted p.fans[2] pins.fault[2] pins.tach[2] (s.fan 2),
               Fan.restarted p.fans[3] pins.fault[3] pins.tach[3] (s.fan 3)]
    doors := #v[Door.restarted p.doors[0] pins.doors[0] (s.door 0), Door.restarted p.doors[1] pins.doors[1] (s.door 1)]
    stop := HardLine.started pins.stop
    escape := HardLine.started pins.escape
    maint := HardLine.started pins.maint }

/-- The warm reset that the end or the cancellation of the RESET's reply brings: no command carries the levels that it finds,
which are free (R166; log entries 17 and 21). -/
def resetAfterReply (s : State) : State := warmReset (Config.pinsAtReset s.choice) s.nextChoice

/-- The warm reset, taken where an accepted RESET waits for it (R166, R179; log entry 17). -/
def warmResetDue (pins : Pins) (s : State) : State := if s.line.resetRequested then warmReset pins s else s

def execWarmReset (s : State) (pins : Pins := default) : Answer := .next (warmResetDue pins s)

end Sys2Proof.Machine
end

