-- ==== Sys2Proof/Machine/NicheLine.lean ====
section
/-! DEFINITION. The niche line (chapter 10): the receiver, the arrival and dispatch of a valid frame, replies, and
enumeration. -/

namespace Sys2Proof.Machine

/-! ### Replies (R158) -/

/-- What a request answers: a result code, and for OK the fields of its kind. -/
structure Reply where
  code : ResultCode
  data : List Byte
  deriving DecidableEq, Repr

/-- A request answered OK with these fields. -/
def done (data : List Byte) (s : State) : State × Reply := (s, { code := .ok, data := data })

/-- A request refused, changing nothing. -/
def refuse (code : ResultCode) (s : State) : State × Reply := (s, { code := code, data := [] })

/-- The reply frame to a request of this kind: destination the supervisory station, kind plus 0x80 (R158). -/
def replyFrame (source kind : Byte) (r : Reply) : List Byte :=
  frameBytes 0 source (kind + 0x80) (byteOf r.code.code :: r.data)

/-- The reply becomes the pending reply (R159). -/
def State.withReply (s : State) (frame : List Byte) : State := s.withLine { s.line with reply := some frame }

/-! ### The pending reply and the receiver (R157, R159, R166) -/

/-- The driver-enable output: on from the first character of a reply to its last (R159). -/
def LineInterface.driverEnabled (l : LineInterface) : Bool := l.transmitting

/-- The pending reply is gone and the driver released; a warm reset that waited for it is taken now (R159, R166; log entry
17). -/
def replyGone (s : State) : State :=
  if s.line.resetRequested then resetAfterReply s
  else s.withLine { s.line with reply := none, transmitting := false }

/-- The receiver in HUNT, with no bytes. -/
def hunting (s : State) : State := s.withLine { s.line with receiver := .hunt, rxGap := none }

/-- The transmission of the pending reply (R159, R166): with its first character the driver is enabled, with its last the reply
is none. An end without a beginning is the whole transmission at once. -/
def replySent (phase : SendPhase) (s : State) : State :=
  match s.line.reply, phase with
  | some _, .begins => s.withLine { s.line with transmitting := true }
  | some frame, .ends => replyGone (s.withLine { s.line with sent := some frame })
  | none, _ => s

def execReplySent (s : State) (phase : SendPhase := .ends) : Answer := .next (replySent phase s)

/-- The partial frame in the receiver, its gap timed from the character just taken (R157). -/
def receiving (bytes : List Byte) (s : State) : State :=
  s.withLine { s.line with receiver := .receiving bytes, rxGap := some 0 }

/-- A 0xB6 character while a reply is pending: the reply is cancelled and the character starts a frame, lost where the
cancelled reply was a RESET's (R159, R166). -/
def cancelReply (s : State) : State :=
  if s.line.resetRequested then resetAfterReply s else receiving [startMark] (replyGone s)

/-- The cancellation of a pending reply of which no character has gone out yet; without one this is no event (R159). -/
def replyCancelled (s : State) : State := if s.line.reply.isSome && !s.line.transmitting then cancelReply s else s

def execReplyCancelled (s : State) : Answer := .next (replyCancelled s)

/-- A character taken in HUNT: a 0xB6 starts a frame and cancels a pending reply; any other is ignored (R157, R159). -/
def huntCharacter (char : Byte) (s : State) : State :=
  if char = startMark then
    if s.line.reply.isSome then cancelReply s else receiving [startMark] s
  else s

/-- A character without its stop bit: the partial frame is discarded; while the controller transmits it is not taken (R157). -/
def framingError (s : State) : State := if s.line.transmitting then s else hunting s

def execFramingError (s : State) : Answer := .next (framingError s)

/-- More than 4 ms between two characters in RECEIVING (R157). -/
def rxGapTimeout (s : State) : State := hunting s

def execRxGapTimeout (s : State) : Answer := .next (rxGapTimeout s)

/-! ### A whole frame (R157, R158; log entry 14) -/

/-- The receiver takes a whole frame: its start byte, taken in HUNT, cancels a pending reply, and the receiver ends in HUNT; a
partial frame before it has run into its gap. The frame is lost where a RESET's reply was cancelled by it, and while the
controller transmits, when the receiver takes no characters (R157, R159, R166). -/
def takeFrame (act : State → State) (s : State) : State :=
  if s.line.transmitting then s
  else if s.line.resetRequested then resetAfterReply s
  else act (hunting (replyGone s))

/-- A complete or over-length frame that is discarded (R157). -/
def invalidFrame (_ : FrameFlaw) (s : State) : State := takeFrame id s

def execInvalidFrame (flaw : FrameFlaw) (s : State) : Answer := .next (invalidFrame flaw s)

/-- What a request does where it is addressed to the controller: from its payload, the state and its answer. -/
abbrev Handler := List Byte → State → State × Reply

/-- Dispatch of an addressed request: its effects and its reply in one event (R158). -/
def answerRequest (kind dest : Byte) (h : State → State × Reply) (s : State) : State :=
  (h s).1.withReply (replyFrame dest kind (h s).2)

/-- A frame with a correct CRC and a length within 96, for this controller, for every controller, or for another
(R157, R158). -/
def frameArrives (kind dest : Byte) (onBroadcast : State → State) (h : State → State × Reply) (s : State) : State :=
  takeFrame (fun s =>
    if dest = broadcast then onBroadcast (linkAlive s)
    else if s.line.station = some dest.toNat then answerRequest kind dest h (linkAlive s)
    else s) s

/-- A request that is discarded as a broadcast (R158). -/
def request (kind dest : Byte) (payload : List Byte) (h : Handler) (s : State) : State :=
  frameArrives kind dest id (h payload) s

/-- A request taken as a broadcast too, with no reply, by a controller that has a station (R158). -/
def broadcastRequest (kind dest : Byte) (payload : List Byte) (h : Handler) (s : State) : State :=
  frameArrives kind dest (fun s => if s.line.station.isSome then (h payload s).1 else s) (h payload) s

/-- An addressed request of a kind outside the catalogue (R158). -/
def unknownKind (dest kind : Byte) (payload : List Byte) (s : State) : State :=
  request kind dest payload (fun _ => refuse .unknownKind) s

def execUnknownKind (dest kind : Byte) (payload : List Byte) (s : State) : Answer :=
  .next (unknownKind dest kind payload s)

/-! ### Enumeration (R160 to R163) -/

/-- An enumeration request addressed to the controller: its length is checked, and it is refused (R158). -/
def refuseEnum (length : Nat) : Handler := fun payload s =>
  if payload.length = length then refuse .refused s else refuse .badLength s

/-- The station given up, and ISOLATING (R160). -/
def isolate (s : State) : State :=
  s.withLine { s.line with station := none, source := .unassigned, enumState := .isolating }

/-- ENUM_START (R160). -/
def enumStartTaken (all : Bool) (s : State) : State :=
  match s.line.source with
  | .strapped => s
  | .unassigned => s.withLine { s.line with enumState := .isolating }
  | .enumerated =>
    if all && s.store.lockLevel < 3 then isolate (s.withCtl { s.ctl with enumStation := 0 }) else s

def enumStartBroadcast (payload : List Byte) (s : State) : State :=
  match payload with
  | [scope] => if scope = 0 then enumStartTaken false s else if scope = 1 then enumStartTaken true s else s
  | _ => s

def enumStart (dest : Byte) (payload : List Byte) (s : State) : State :=
  frameArrives 0x01 dest (enumStartBroadcast payload) (refuseEnum 1 payload) s

def execEnumStart (dest : Byte) (payload : List Byte) (s : State) : Answer := .next (enumStart dest payload s)

/-- The serials agree in their top `k` of 48 bits (R161). -/
def topBitsAgree (k serial probed : Nat) : Bool := serial / 2 ^ (48 - k) == probed / 2 ^ (48 - k)

/-- ENUM_PROBE: a PRESENT reply from every matching part that is ISOLATING (R161). -/
def enumProbeBroadcast (payload : List Byte) (s : State) : State :=
  match payload with
  | k :: probed =>
    if probed.length = 6 ∧ within 1 48 k.toNat = true ∧ s.line.enumState = .isolating ∧
        topBitsAgree k.toNat s.line.serial.toNat (ofBytes probed) = true then
      s.withReply (replyFrame noStation 0x02 { code := .ok, data := [] })
    else s
  | [] => s

def enumProbe (dest : Byte) (payload : List Byte) (s : State) : State :=
  frameArrives 0x02 dest (enumProbeBroadcast payload) (refuseEnum 7 payload) s

def execEnumProbe (dest : Byte) (payload : List Byte) (s : State) : Answer := .next (enumProbe dest payload s)

/-- The station taken, its working setting with it, and the ASSIGNED reply from it (R162). -/
def takeStation (station : Byte) (s : State) : State :=
  let s := s.withCtl { s.ctl with enumStation := station.toNat }
  let s := s.withLine { s.line with station := some station.toNat, source := .enumerated, enumState := .idle }
  s.withReply (replyFrame station 0x03 { code := .ok, data := [station] })

/-- ENUM_ASSIGN (R162). -/
def enumAssignBroadcast (payload : List Byte) (s : State) : State :=
  match payload with
  | [a, b, c, d, e, f, station] =>
    if within 1 32 station.toNat = true ∧ s.line.enumState = .isolating ∧
        ofBytes [a, b, c, d, e, f] = s.line.serial.toNat ∧ s.store.lockLevel < 3 then
      takeStation station s
    else s
  | _ => s

def enumAssign (dest : Byte) (payload : List Byte) (s : State) : State :=
  frameArrives 0x03 dest (enumAssignBroadcast payload) (refuseEnum 7 payload) s

def execEnumAssign (dest : Byte) (payload : List Byte) (s : State) : Answer := .next (enumAssign dest payload s)

/-- ENUM_END (R163). -/
def enumEndBroadcast (payload : List Byte) (s : State) : State :=
  match payload with
  | [] => s.withLine { s.line with enumState := .idle }
  | _ => s

def enumEnd (dest : Byte) (payload : List Byte) (s : State) : State :=
  frameArrives 0x04 dest (enumEndBroadcast payload) (refuseEnum 0 payload) s

def execEnumEnd (dest : Byte) (payload : List Byte) (s : State) : Answer := .next (enumEnd dest payload s)

end Sys2Proof.Machine
end

