-- ==== Sys2Proof/Machine/Params.lean ====
section
/-! DEFINITION. The parameters by unit and index (12.1): their values on the line, their checks, and what an accepted
write does at once (R18, R30, R35, R62, R74, R76, R77, R83, R87, R89, R99, R107, R109, R115, R127, R145, R155). -/

namespace Sys2Proof.Machine

/-! ### Units -/

/-- The block a unit number names. -/
inductive UnitName where
  | controller
  | channel (c : Fin 8)
  | fan (f : Fin 4)
  | door (d : Fin 2)
  deriving DecidableEq, Repr

def unitOf (u : Nat) : Option UnitName :=
  if u = 0 then some .controller
  else match channelOfUnit u, fanOfUnit u, doorOfUnit u with
    | some c, _, _ => some (.channel c)
    | none, some f, _ => some (.fan f)
    | none, none, some d => some (.door d)
    | none, none, none => none

/-- Parameters of a unit: its indices run from 0 to below this (12.1). -/
def indexCount : UnitName → Nat
  | .controller => 6
  | .channel _ => 13
  | .fan _ => 22
  | .door _ => 13

/-- The lock level of a parameter (R176, and the parameter tables). -/
def lockLevelOf (u : UnitName) (index : Nat) : Nat :=
  match u with
  | .controller => if index = 0 ∨ index = 5 then 3 else 2
  | .channel _ => if index = 0 ∨ index = 12 then 2 else 1
  | .fan _ => 2
  | .door _ => 3

/-! ### Values held, as the line carries them (R167) -/

/-- A signed value as 16 bits. -/
def signedCode (i : Int) : Nat := (BitVec.ofInt 16 i).toNat

/-- The signed reading of 16 bits. -/
def signedOf (v : Nat) : Int := (BitVec.ofNat 16 v).toInt

def ControllerSettings.value (p : ControllerSettings) : Nat → Nat
  | 0 => p.linkTimeout
  | 1 => p.slotCount
  | 2 => priorityCode p.priority
  | 3 => bitOf p.autoResume
  | 4 => optionCode p.pressFan
  | _ => p.enumStation

def ChannelSettings.value (p : ChannelSettings) : Nat → Nat
  | 0 => kindCode p.kind
  | 1 => p.zero
  | 2 => p.span
  | 3 => p.window
  | 4 => p.faultPersistence
  | 5 => signedCode p.t1
  | 6 => signedCode p.t2
  | 7 => signedCode p.t3
  | 8 => signedCode p.hysteresis
  | 9 => p.upPersistence
  | 10 => p.downPersistence
  | 11 => p.substitute
  | _ => bitOf p.contributes

def FanSettings.value (p : FanSettings) : Nat → Nat
  | 0 => dirCode p.defaultDir
  | 1 => p.speed0
  | 2 => p.speed1
  | 3 => p.speed2
  | 4 => p.speed3
  | 5 => p.rampUp
  | 6 => p.rampDown
  | 7 => p.minDwell
  | 8 => p.coastLimit
  | 9 => p.pulsesPerRev
  | 10 => p.prescale
  | 11 => p.filterN
  | 12 => p.ratedRpm
  | 13 => p.tolerance
  | 14 => p.verifyWindow
  | 15 => p.startLimit
  | 16 => p.maxCredits
  | 17 => p.creditInterval
  | 18 => p.tripLimit
  | 19 => p.standby
  | 20 => p.boost
  | _ => p.relief

def DoorSettings.value (p : DoorSettings) : Nat → Nat
  | 0 => p.openPosition
  | 1 => p.creepZone
  | 2 => p.tolerance
  | 3 => p.travelLimit
  | 4 => p.holdOpenTime
  | 5 => bitOf p.autoReclose
  | 6 => lockPolicyCode p.lockPolicy
  | 7 => optionCode p.pressureChannel
  | 8 => p.pressureLimit
  | 9 => p.reliefTimeout
  | 10 => p.blindTime
  | 11 => p.retries
  | _ => p.stepSize

/-- The working value of a parameter (R173). -/
def Settings.value (p : Settings) (u : UnitName) (index : Nat) : Nat :=
  match u with
  | .controller => p.controller.value index
  | .channel c => p.channels[c].value index
  | .fan f => p.fans[f].value index
  | .door d => p.doors[d].value index

/-! ### Checked writes (R174, steps 4 to 6): the settings with the new value, or the result code of the first check
that fails -/

/-- A number in its range, or OUT_OF_RANGE. -/
def ranged {α : Type} (lo hi v : Nat) (p : α) : Except ResultCode α :=
  if within lo hi v then .ok p else .error .outOfRange

/-- A value of a code-valued parameter, or BAD_PARAM (R168). -/
def coded {α β : Type} (c : Option α) (k : α → Except ResultCode β) : Except ResultCode β :=
  match c with
  | some a => k a
  | none => .error .badParam

def ControllerSettings.write (p : ControllerSettings) (index v : Nat) : Except ResultCode ControllerSettings :=
  match index with
  | 0 => ranged 1 60 v { p with linkTimeout := v }
  | 1 => ranged 1 2 v { p with slotCount := v }
  | 2 => coded (priorityOfCode v) fun m => .ok { p with priority := m }
  | 3 => ranged 0 1 v { p with autoResume := v == 1 }
  | 4 => coded (optionOfCode 4 v) fun f => .ok { p with pressFan := f }
  | _ => ranged 0 32 v { p with enumStation := v }

/-- A threshold into the range of a kind (R18). -/
def clampThreshold (k : ChannelKind) (t : Int) : Int := max (kindLow k) (min t kindHigh)

/-- An accepted kind: a signed kind clears the contribution flag, and the thresholds are clamped (R18). -/
def ChannelSettings.withKind (p : ChannelSettings) (k : ChannelKind) : ChannelSettings :=
  { p with
    kind := k
    contributes := p.contributes && isGas k
    t1 := clampThreshold k p.t1
    t2 := clampThreshold k p.t2
    t3 := clampThreshold k p.t3 }

/-- The thresholds lie in the range of the kind and in their order (R18). -/
def ChannelSettings.thresholdsOk (p : ChannelSettings) : Bool :=
  kindLow p.kind ≤ p.t1 && p.t1 ≤ p.t2 && p.t2 ≤ p.t3 && p.t3 ≤ kindHigh

def ChannelSettings.writeThreshold (p : ChannelSettings) : Except ResultCode ChannelSettings :=
  if p.thresholdsOk then .ok p else .error .outOfRange

def ChannelSettings.write (p : ChannelSettings) (index v : Nat) : Except ResultCode ChannelSettings :=
  match index with
  | 0 => coded (kindOfCode v) fun k => .ok (p.withKind k)
  | 1 => ranged 0 4000 v { p with zero := v }
  | 2 => ranged 0 65535 v { p with span := v }
  | 3 => ranged 1 64 v { p with window := v }
  | 4 => ranged 1 255 v { p with faultPersistence := v }
  | 5 => { p with t1 := signedOf v }.writeThreshold
  | 6 => { p with t2 := signedOf v }.writeThreshold
  | 7 => { p with t3 := signedOf v }.writeThreshold
  | 8 => ranged 0 32767 v { p with hysteresis := v }
  | 9 => ranged 1 255 v { p with upPersistence := v }
  | 10 => ranged 1 255 v { p with downPersistence := v }
  | 11 => ranged 0 3 v { p with substitute := v }
  | _ =>
    if within 0 1 v && (v == 0 || isGas p.kind) then .ok { p with contributes := v == 1 } else .error .outOfRange

/-- A divider of 1, 2, 4 or 8 (R62). -/
def dividing {α : Type} (v : Nat) (p : α) : Except ResultCode α := if isDivider v then .ok p else .error .outOfRange

def FanSettings.write (p : FanSettings) (index v : Nat) : Except ResultCode FanSettings :=
  match index with
  | 0 => coded (dirOfCode v) fun d => .ok { p with defaultDir := d }
  | 1 => ranged 0 1000 v { p with speed0 := v }
  | 2 => ranged 0 1000 v { p with speed1 := v }
  | 3 => ranged 0 1000 v { p with speed2 := v }
  | 4 => ranged 0 1000 v { p with speed3 := v }
  | 5 => ranged 1 1000 v { p with rampUp := v }
  | 6 => ranged 1 1000 v { p with rampDown := v }
  | 7 => ranged 2 60 v { p with minDwell := v }
  | 8 => ranged 10 600 v { p with coastLimit := v }
  | 9 => ranged 0 16 v { p with pulsesPerRev := v }
  | 10 => dividing v { p with prescale := v }
  | 11 => dividing v { p with filterN := v }
  | 12 => ranged 100 9999 v { p with ratedRpm := v }
  | 13 => ranged 5 50 v { p with tolerance := v }
  | 14 => ranged 2 60 v { p with verifyWindow := v }
  | 15 => ranged 5 60 v { p with startLimit := v }
  | 16 => ranged 1 12 v { p with maxCredits := v }
  | 17 => ranged 1 60 v { p with creditInterval := v }
  | 18 => ranged 1 10 v { p with tripLimit := v }
  | 19 => ranged 0 1000 v { p with standby := v }
  | 20 => ranged 0 1000 v { p with boost := v }
  | _ => ranged 0 1000 v { p with relief := v }

/-- A pressure channel must be none or a channel whose working kind is DPRESS (R115). -/
def pressureChannelOk (p : Settings) : Option (Fin 8) → Bool
  | none => true
  | some c => p.channels[c].kind == .dpress

def DoorSettings.write (all : Settings) (p : DoorSettings) (index v : Nat) : Except ResultCode DoorSettings :=
  match index with
  | 0 => ranged 100 30000 v { p with openPosition := v }
  | 1 => ranged 0 2000 v { p with creepZone := v }
  | 2 => ranged 1 100 v { p with tolerance := v }
  | 3 => ranged 2 60 v { p with travelLimit := v }
  | 4 => ranged 5 600 v { p with holdOpenTime := v }
  | 5 => ranged 0 1 v { p with autoReclose := v == 1 }
  | 6 => coded (lockPolicyOfCode v) fun l => .ok { p with lockPolicy := l }
  | 7 => coded (optionOfCode 8 v) fun c =>
      if pressureChannelOk all c then .ok { p with pressureChannel := c } else .error .outOfRange
  | 8 => ranged 10 500 v { p with pressureLimit := v }
  | 9 => ranged 1 30 v { p with reliefTimeout := v }
  | 10 => ranged 0 10 v { p with blindTime := v }
  | 11 => ranged 0 5 v { p with retries := v }
  | _ => ranged 1 1000 v { p with stepSize := v }

/-- The settings with one unit's parameters replaced. -/
def Settings.withChannel (p : Settings) (c : Fin 8) (x : ChannelSettings) : Settings :=
  { p with channels := p.channels.set c x }
def Settings.withFan (p : Settings) (f : Fin 4) (x : FanSettings) : Settings := { p with fans := p.fans.set f x }
def Settings.withDoor (p : Settings) (d : Fin 2) (x : DoorSettings) : Settings := { p with doors := p.doors.set d x }

/-- A checked write to the working settings (R174, steps 4 to 6). -/
def Settings.write (p : Settings) (u : UnitName) (index v : Nat) : Except ResultCode Settings :=
  match u with
  | .controller => (p.controller.write index v).map fun x => { p with controller := x }
  | .channel c => (p.channels[c].write index v).map (p.withChannel c)
  | .fan f => (p.fans[f].write index v).map (p.withFan f)
  | .door d => (p.doors[d].write p index v).map (p.withDoor d)

/-! ### What an accepted write does at once -/

/-- The start-phase test, and the requests that then wait (R73). -/
def testStartPhase (f : Fin 4) (s : State) : State := serve (startPhaseTest f s)

/-- The link timer compared with a new link timeout (R145). -/
def testLink (s : State) : State :=
  if s.modes.linkTimer.any fun t => s.ctl.linkTimeout * 1000 ≤ t then linkExpires s else s

/-- The target of a fan under the present pressurisation-fan parameter (R46). -/
def retarget (f : Fin 4) (s : State) : State := if s.modes.mode = .auto then refreshAuto f s else recompose f s

/-- The fans the old and the new pressurisation-fan parameter name. -/
def namedFans (old new : Option (Fin 4)) : List (Fin 4) := allFans.filter fun f => some f == old || some f == new

/-- A changed pressurisation fan: the fan now named is clamped while a door is relieving, both fans take their targets,
and urgency is evaluated (R46, R83, R127). -/
def pressFanChanged (old : Option (Fin 4)) (s : State) : State :=
  let s := match s.ctl.pressFan with
    | some f => if someDoorRelieving s then clampReference f s else s
    | none => s
  reviewUrgency (takeInAnyOrder (namedFans old s.ctl.pressFan) retarget s)

/-- A changed enumerated station acts at once while the strap value is 0 (R155). -/
def stationChanged (s : State) : State :=
  if s.line.strap = 0 then
    let st := stationOf 0 s.ctl.enumStation
    s.withLine { s.line with station := st.1, source := st.2 }
  else s

def controllerChanged (index : Nat) (old : Settings) (s : State) : State :=
  match index with
  | 0 => testLink s
  | 4 => pressFanChanged old.controller.pressFan s
  | 5 => stationChanged s
  | _ => s

/-- The new fault-substitute level of a channel in FAULT is its level at once (R30). -/
def substituteChanged (c : Fin 8) (s : State) : State :=
  if (s.channel c).state = .fault then setLevel c (s.channelCfg c).substitute s else s

def channelChanged (c : Fin 8) (index : Nat) (s : State) : State :=
  match index with
  | 0 => recomputeDemand s
  | 11 => substituteChanged c s
  | 12 => recomputeDemand s
  | _ => s

/-- Changed pulses per rev act on the fan's tests at once (R54, R73, R77), on the standstill time as it then stands (log
entry 43). -/
def pulsesChanged (f : Fin 4) (s : State) : State :=
  let s := if (s.fan f).state = .running ∧ hasTach s f = false then
      s.withFan f { s.fan f with verifyTimer := some 0 }
    else s
  coastTest f (testStartPhase f s)

/-- A changed relief speed: where it is lowered while a door is relieving, the named fan is clamped; its target is then
recomposed (R126, R127). -/
def reliefChanged (f : Fin 4) (old : Settings) (s : State) : State :=
  if s.ctl.pressFan = some f then
    recompose f (if someDoorRelieving s && (s.fanCfg f).relief < old.fans[f].relief then clampReference f s else s)
  else s

/-- The credit interval compared with the timer at the write (R89, R90). -/
def intervalChanged (f : Fin 4) (s : State) : State :=
  if creditDue (s.fanCfg f) (s.fan f) then joinOnCredit f (s.withFan f ((s.fan f).intervalTested (s.fanCfg f))) else s

def fanChanged (f : Fin 4) (index : Nat) (old : Settings) (s : State) : State :=
  match index with
  | 0 => refreshAuto f s
  | 1 => refreshAuto f s
  | 2 => refreshAuto f s
  | 3 => refreshAuto f s
  | 4 => refreshAuto f s
  | 7 => coastTest f s
  | 8 => coastTest f s
  | 9 => pulsesChanged f s
  | 12 => testStartPhase f s
  | 13 => testStartPhase f s
  | 14 => verifyWindowExpiry f s
  | 15 => startLimitWritten f s
  | 16 => s.withFan f ((s.fan f).creditsUnder (s.fanCfg f))
  | 17 => intervalChanged f s
  | 19 => refreshAuto f s
  | 20 => if s.ctl.pressFan = some f then recompose f s else s
  | 21 => reliefChanged f old s
  | _ => s

/-- The hold-open timer compared with a new hold-open time (R107). -/
def testHoldOpen (d : Fin 2) (s : State) : State :=
  if (s.door d).holdRuns (s.doorCfg d) && ((s.door d).holdOpen.any fun t => (s.doorCfg d).holdOpenTime * 1000 ≤ t) then
    holdOpenExpiry d s
  else s

/-- A changed lock policy (R109). -/
def lockPolicyChanged (d : Fin 2) (s : State) : State :=
  match (s.doorCfg d).lockPolicy with
  | .lockedWhenClosed => relock d s
  | .never => if (s.door d).state = .closedLocked then enterDoor d .closed s else s

/-- What a door does at a write. A changed tolerance is tested against the current travel; it re-judges no door at rest, one in
CLOSED included (R115; log entry 46). -/
def doorChanged (d : Fin 2) (index : Nat) (s : State) : State :=
  match index with
  | 2 => testTravel d s
  | 3 => testTravel d s
  | 4 => testHoldOpen d s
  | 5 => s.withDoor d ((s.door d).startHold (s.doorCfg d))
  | 6 => lockPolicyChanged d s
  | _ => s

/-- What the blocks do at a write that has changed a working value; `old` holds the settings before it. -/
def paramChanged (u : UnitName) (index : Nat) (old : Settings) (s : State) : State :=
  match u with
  | .controller => controllerChanged index old s
  | .channel c => channelChanged c index s
  | .fan f => fanChanged f index old s
  | .door d => doorChanged d index s

/-! ### GET_PARAM and SET_PARAM (R173, R174) -/

def paramReply (u i : Byte) (v : Nat) : List Byte := u :: i :: be16 v

def getParamTaken : Handler := fun payload s =>
  match payload with
  | [u, i] =>
    match unitOf u.toNat with
    | none => refuse .badUnit s
    | some unit =>
      if i.toNat < indexCount unit then done (paramReply u i (s.settings.value unit i.toNat)) s else refuse .badParam s
  | _ => refuse .badLength s

def getParam (dest : Byte) (payload : List Byte) (s : State) : State := request 0x20 dest payload getParamTaken s

def execGetParam (dest : Byte) (payload : List Byte) (s : State) : Answer := .next (getParam dest payload s)

/-- The slot count while any fan holds a grant (R87, R174 step 7). -/
def slotCountBusy (s : State) (u : UnitName) (index : Nat) : Bool :=
  u == .controller && index == 1 && !s.arbiter.holders.isEmpty

/-- The accepted write: the working value replaced and its effects made; a value already held changes nothing (R174). -/
def acceptWrite (u : UnitName) (index : Nat) (p : Settings) (s : State) : State :=
  if p = s.settings then s else paramChanged u index s.settings (s.withSettings p)

/-- The checks of a SET_PARAM from the lock level on (R174, steps 3 to 7). -/
def writeParam (u : UnitName) (index v : Nat) (s : State) : Except ResultCode State :=
  if lockLevelOf u index ≤ s.store.lockLevel then .error .locked
  else match s.settings.write u index v with
    | .error e => .error e
    | .ok p => if slotCountBusy s u index then .error .busy else .ok (acceptWrite u index p s)

def setParamTaken : Handler := fun payload s =>
  match payload with
  | [u, i, hi, lo] =>
    match unitOf u.toNat with
    | none => refuse .badUnit s
    | some unit =>
      if i.toNat < indexCount unit then
        match writeParam unit i.toNat (ofBytes [hi, lo]) s with
        | .error e => refuse e s
        | .ok s' => done (paramReply u i (s'.settings.value unit i.toNat)) s'
      else refuse .badParam s
  | _ => refuse .badLength s

def setParam (dest : Byte) (payload : List Byte) (s : State) : State := request 0x21 dest payload setParamTaken s

def execSetParam (dest : Byte) (payload : List Byte) (s : State) : Answer := .next (setParam dest payload s)

end Sys2Proof.Machine
end

