-- ==== Sys2Proof/Machine/ReadRequests.lean ====
section
/-! DEFINITION. The requests that read the part: IDENTIFY, STATUS, READ_CHANNEL, READ_FAN, READ_DOOR, GET_SCENARIO and
POLL, with the blocks and records of the Formats section (10.7). -/

namespace Sys2Proof.Machine

/-- A request with no payload. -/
def withNothing (k : State → State × Reply) : Handler := fun payload s =>
  match payload with
  | [] => k s
  | _ => refuse .badLength s

/-- A request with a payload of one byte. -/
def withByte (k : Nat → State → State × Reply) : Handler := fun payload s =>
  match payload with
  | [b] => k b.toNat s
  | _ => refuse .badLength s

/-- A unit among those a kind names, or BAD_UNIT (R158). -/
def withUnit {α : Type} (u : Option α) (k : α → State → State × Reply) (s : State) : State × Reply :=
  match u with
  | some a => k a s
  | none => refuse .badUnit s

/-! ### IDENTIFY and STATUS (R164, R165) -/

def identity (s : State) : List Byte :=
  beBytes 6 s.line.serial.toNat ++ be16 Config.productCode.toNat ++
    [Config.revision, byteOf s.line.strap, byteOf s.line.bitRate.code, byteOf (sourceCode s.line.source),
     byteOf s.store.lockLevel]

def identifyTaken : Handler := withNothing fun s => done (identity s) s

def identify (dest : Byte) (payload : List Byte) (s : State) : State := request 0x10 dest payload identifyTaken s

def execIdentify (dest : Byte) (payload : List Byte) (s : State) : Answer := .next (identify dest payload s)

/-- The tag of the armed record, 0 when it is absent (R130). -/
def armedTag (s : State) : Nat := (s.modes.armed.map (·.tag)).getD 0

def armedScenario (s : State) : Nat := (s.modes.armed.map (·.scenario)).getD 0

/-- The 22 bytes of the status block (R165). -/
def statusBlock (s : State) : List Byte :=
  [byteOf (modeCode s.modes.mode), byteOf s.modes.engaged, byteOf (armedTag s), byteOf s.demand.stage,
   byteOf s.demand.floor, lineFlags s, byteOf s.reports.records.length, byteOf (bitOf s.reports.overflow)] ++
  allChannels.map (fun c => byteOf (channelStateCode (s.channel c).state)) ++
  allFans.map (fun f => byteOf (fanStateCode (s.fan f).state)) ++
  allDoors.map fun d => byteOf (doorStateCode (s.door d).state)

def statusTaken : Handler := withNothing fun s => done (statusBlock s) s

def status (dest : Byte) (payload : List Byte) (s : State) : State := request 0x11 dest payload statusTaken s

def execStatus (dest : Byte) (payload : List Byte) (s : State) : Answer := .next (status dest payload s)

/-! ### READ_CHANNEL, READ_FAN, READ_DOOR (R21, R38, R61, R71, R91, R114, R129) -/

/-- The 16 bytes of the channel block. -/
def channelBlock (s : State) (c : Fin 8) : List Byte :=
  let x := s.channel c
  [byteOf (channelUnit c), byteOf (channelStateCode x.state), byteOf (kindCode x.inForce.kind), byteOf x.inForce.window] ++
    be16 x.rawCode ++ beInt x.calibrated ++ beInt (x.average.getD 0) ++
    [channelFlags x, byteOf x.fill, byteOf x.faultRun, byteOf x.level, byteOf x.upCount, byteOf x.downCount]

/-- The reply carries LIMITED, and composing it clears LIMITED (R12). -/
def readChannelTaken : Handler := withByte fun u => withUnit (channelOfUnit u) fun c s =>
  done (channelBlock s c) (s.withChannel c { s.channel c with limited := false })

def readChannel (dest : Byte) (payload : List Byte) (s : State) : State := request 0x12 dest payload readChannelTaken s

def execReadChannel (dest : Byte) (payload : List Byte) (s : State) : Answer := .next (readChannel dest payload s)

/-- The 20 bytes of the fan block. -/
def fanBlock (s : State) (f : Fin 4) : List Byte :=
  let x := s.fan f
  [byteOf (fanUnit f), byteOf (fanStateCode x.state), fanFlags x, byteOf (dirCode x.latched),
   byteOf (dirCode x.target.dir)] ++
    be16 x.target.speed ++ be16 x.reference ++ be16 x.tach.rpm ++ beBytes 4 (x.tach.lastPeriod.getD 0) ++
    [byteOf x.credits] ++ be16 (x.creditTimer.getD 0 / 1000) ++ [byteOf x.tripCount, byteOf (tripCauseCode x.lastTrip)]

def readFanTaken : Handler := withByte fun u => withUnit (fanOfUnit u) fun f s => done (fanBlock s f) s

def readFan (dest : Byte) (payload : List Byte) (s : State) : State := request 0x13 dest payload readFanTaken s

def execReadFan (dest : Byte) (payload : List Byte) (s : State) : Answer := .next (readFan dest payload s)

/-- The 5 bytes of a travel record; an absent record is all 0 (10.7). -/
def travelBytes : Option Travel → List Byte
  | none => [0, 0, 0, 0, 0]
  | some t =>
    [travelFlags t, byteOf (travelModeCode t.mode), byteOf (reasonCode t.reason)] ++
      (match t.target with
        | some p => beInt p
        | none => be16 0xFFFF)

/-- The 25 bytes of the door block. -/
def doorBlock (s : State) (d : Fin 2) : List Byte :=
  let x := s.door d
  [byteOf (doorUnit d), byteOf (doorStateCode x.state)] ++ beInt x.position ++
    [doorFlags x, doorInputs x.inputs, escapeBits x.escape] ++
    travelBytes x.travel ++ be16 (x.travelTimer.getD 0 / 100) ++ travelBytes x.slot ++ [byteOf x.retry] ++
    be16 (x.holdOpen.getD 0 / 1000) ++ be16 (x.reliefTimer.getD 0 / 100) ++
    [byteOf ((x.reliefChannel.map (·.val)).getD 0xFF)]

def readDoorTaken : Handler := withByte fun u => withUnit (doorOfUnit u) fun d s => done (doorBlock s d) s

def readDoor (dest : Byte) (payload : List Byte) (s : State) : State := request 0x14 dest payload readDoorTaken s

def execReadDoor (dest : Byte) (payload : List Byte) (s : State) : Answer := .next (readDoor dest payload s)

/-! ### GET_SCENARIO (R135) -/

def fanEntryBytes (e : FanEntry) : List Byte :=
  [byteOf e.fan.val, byteOf (dirCode e.dir)] ++ be16 e.speed ++ [byteOf e.delay]

def doorEntryBytes (e : DoorEntry) : List Byte := [byteOf e.door.val, byteOf (doorPolicyCode e.policy)]

/-- A scenario record as the line carries it, under its number (10.7). -/
def scenarioBytes (n : Nat) (r : ScenarioRecord) : List Byte :=
  [byteOf n, byteOf r.fans.length, byteOf r.doors.length] ++ r.fans.flatMap fanEntryBytes ++
    r.doors.flatMap doorEntryBytes

/-- The record in force, or an empty one under number 0 outside INCIDENT (R135). -/
def engagedBytes (s : State) : List Byte := scenarioBytes s.modes.engaged (s.modes.record.getD .empty)

def getScenarioTaken : Handler := withByte fun n s =>
  if 15 < n then refuse .outOfRange s
  else if n = 0 then done (engagedBytes s) s
  else done (scenarioBytes n (s.settings.scenario n)) s

def getScenario (dest : Byte) (payload : List Byte) (s : State) : State := request 0x26 dest payload getScenarioTaken s

def execGetScenario (dest : Byte) (payload : List Byte) (s : State) : Answer := .next (getScenario dest payload s)

/-! ### POLL (R171) -/

/-- An average with its mark, 0 where it is absent. -/
def averageBytes (a : Option Int) : List Byte := byteOf (bitOf a.isSome) :: beInt (a.getD 0)

/-- The code of a report's kind (10.7). -/
def reportKind : ReportData → Nat
  | .powerUp _ _ => 0x01
  | .level _ _ => 0x02
  | .channelFault _ => 0x03
  | .channelRecovered => 0x04
  | .demand _ _ => 0x05
  | .fanState _ _ => 0x06
  | .doorRequest _ => 0x07
  | .doorDone _ _ _ _ => 0x08
  | .relief _ _ _ => 0x09
  | .nextReplaced _ _ => 0x0A
  | .line _ _ => 0x0B
  | .mode _ _ _ _ => 0x0C
  | .engageMissed _ _ _ => 0x0D
  | .link _ => 0x0E
  | .store _ => 0x0F

/-- The data of a report (10.7). -/
def reportDataBytes : ReportData → List Byte
  | .powerUp warm valid => [byteOf (bitOf warm), byteOf (bitOf valid)]
  | .level n a => byteOf n :: averageBytes a
  | .channelFault c => [byteOf (loopCauseCode c)]
  | .channelRecovered => []
  | .demand stage floor => [byteOf stage, byteOf floor]
  | .fanState st c => [byteOf (fanStateCode st), byteOf (fanCauseCode c)]
  | .doorRequest src => [byteOf src.code]
  | .doorDone dir e p forced =>
    [byteOf (doorDirCode dir), byteOf (terminationCode e)] ++ beInt p ++ [byteOf (bitOf forced)]
  | .relief o t a => byteOf (reliefOutcomeCode o) :: (be16 t ++ averageBytes a)
  | .nextReplaced dir r => [byteOf (doorDirCode dir), byteOf (reasonCode r)]
  | .line l b => [byteOf (lineNameCode l), byteOf (bitOf b)]
  | .mode m n c tag => [byteOf (modeCode m), byteOf n, byteOf (modeCauseCode c), byteOf tag]
  | .engageMissed r t n => [byteOf r, byteOf t, byteOf n]
  | .link restored => [byteOf (bitOf restored)]
  | .store failed => [byteOf (bitOf failed)]

/-- A report record as a POLL reply carries it (10.7). -/
def reportBytes (r : Report) : List Byte :=
  beBytes 4 r.stamp.toNat ++
    [byteOf r.unit, byteOf (reportKind r.data), byteOf (reportDataBytes r.data).length] ++ reportDataBytes r.data

/-- The removal of the oldest record, and the marker cleared by the last (R171). -/
def ReportQueue.polled (q : ReportQueue) : ReportQueue :=
  { q with records := q.records.tail, overflow := q.overflow && decide (1 < q.records.length) }

def pollTaken : Handler := withNothing fun s =>
  match s.reports.records with
  | [] => done [0, 0] s
  | r :: rest =>
    done ([byteOf rest.length, byteOf (bitOf s.reports.overflow)] ++ reportBytes r) (s.withReports s.reports.polled)

def poll (dest : Byte) (payload : List Byte) (s : State) : State := request 0x60 dest payload pollTaken s

def execPoll (dest : Byte) (payload : List Byte) (s : State) : Answer := .next (poll dest payload s)

end Sys2Proof.Machine
end

