-- ==== Sys2Proof/Machine/SetRequests.lean ====
section
/-! DEFINITION. The requests on the settings and the restart: SAVE, LOCK, SET_ACTIVE, SET_SCENARIO, RESET
(R166, R175 to R177, R19, R33, R63, R116, R134). -/

namespace Sys2Proof.Machine

/-! ### SAVE, LOCK, RESET -/

/-- SAVE takes the snapshot and sets store-busy, or is BUSY (R175). -/
def saveTaken : Handler := withNothing fun s =>
  if s.store.busy then refuse .busy s else done [] (s.withStore { s.store with snapshot := some s.settings })

def save (dest : Byte) (payload : List Byte) (s : State) : State := request 0x22 dest payload saveTaken s

def execSave (dest : Byte) (payload : List Byte) (s : State) : Answer := .next (save dest payload s)

/-- LOCK raises the lock level or keeps it (R176). -/
def lockTaken : Handler := withByte fun n s =>
  if 3 < n then refuse .outOfRange s
  else if n < s.store.lockLevel then refuse .refused s
  else done [byteOf n] (s.withStore { s.store with lockLevel := n })

def lock (dest : Byte) (payload : List Byte) (s : State) : State := request 0x23 dest payload lockTaken s

def execLock (dest : Byte) (payload : List Byte) (s : State) : Answer := .next (lock dest payload s)

/-- RESET asks for a warm reset after its reply (R166). -/
def resetTaken : Handler := withNothing fun s =>
  if s.incident then refuse .refused s else done [] (s.withLine { s.line with resetRequested := true })

def resetRequest (dest : Byte) (payload : List Byte) (s : State) : State := request 0x70 dest payload resetTaken s

def execReset (dest : Byte) (payload : List Byte) (s : State) : Answer := .next (resetRequest dest payload s)

/-! ### SET_ACTIVE of a channel (R19, R33) -/

/-- The channel switched off: INACTIVE, window empty, fault run 0, LIMITED clear, level and counts 0. -/
def Channel.switchedOff (x : Channel) : Channel :=
  { x with state := .inactive, faultRun := 0, limited := false }.emptied

/-- Switching off an active channel, and what it does at the demand unit. -/
def channelOff (c : Fin 8) (s : State) : State :=
  if (s.channel c).state = .inactive then s
  else recomputeDemand (setLevel c 0 (s.withChannel c (s.channel c).switchedOff))

/-- The channel switched on: the working configuration in force, an empty window, WARMING, at level 0. -/
def Channel.switchedOn (p : ChannelSettings) (x : Channel) : Channel :=
  { (x.reconfigured p) with state := .warming, level := 0, upCount := 0, downCount := 0 }

def channelOn (c : Fin 8) (s : State) : State :=
  if (s.channel c).state = .inactive then
    recomputeDemand (s.withChannel c ((s.channel c).switchedOn (s.channelCfg c)))
  else s

/-! ### SET_ACTIVE of a fan (R63) -/

/-- Switching off a fan: its grant or place given up, outputs off, INACTIVE; a slot freed is served. -/
def fanOff (f : Fin 4) (s : State) : State :=
  if (s.fan f).state = .inactive then s
  else
    let s := leaveArbiter f s
    serve (s.withFan f ((s.fan f).outputsOff .inactive))

/-- COASTING with off time and standstill time from 0 (R63). -/
def Fan.coastsAnew (x : Fan) : Fan := { x with state := .coasting, offTime := 0, standstill := 0 }

/-- A lockout cleared at a switch-on in INCIDENT (R63). -/
def Fan.unlocked (x : Fan) : Fan := { x with lockoutMemory := false, tripCount := 0, lastTrip := .noTrip }

def fanOn (f : Fin 4) (s : State) : State :=
  let x := s.fan f
  if x.state = .inactive then
    if x.lockoutMemory then
      if s.incident && (engagedEntry s f).isSome then s.withFan f x.unlocked.coastsAnew
      else s.withFan f { x with state := .lockedOut }
    else s.withFan f x.coastsAnew
  else s

/-! ### SET_ACTIVE of a door (R116) -/

/-- Travel, slot, timers, escape-request set and reclose suspended cleared at a switch-off. -/
def Door.emptied (x : Door) : Door :=
  { x with
    travel := none
    slot := none
    escape := .empty
    settle := none
    travelTimer := none
    holdOpen := none
    reopen := none
    recloseSuspended := false }

/-- A door switched off; its state and its emptied set are handed to the arbiter as one change (R83, R116). -/
def doorOff (d : Fin 2) (s : State) : State :=
  if (s.door d).state = .inactive then s else enterDoor d .inactive (s.withDoor d (s.door d).emptied)

/-- The held sources that stand for a door (R116). -/
def standingSources (s : State) (d : Fin 2) : List EscapeSource :=
  (if s.escape.asserted then [.escapeLine] else []) ++
    (if engagedPolicy s.modes.record d == .openHold then [.scenario] else [])

/-- The state a door is switched on in: position 0 as at power-on, CLOSED, relocking, on its closed end-stop, and UNHOMED
elsewhere (R116, R117). -/
def doorStarts (d : Fin 2) (s : State) : State :=
  let x := { s.door d with retry := (s.doorCfg d).retries, position := 0, homed := (s.door d).inputs.closedStop }
  if x.inputs.closedStop then relock d (enterDoor d .closed (s.withDoor d x))
  else enterDoor d .unhomed (s.withDoor d x)

def doorOn (d : Fin 2) (s : State) : State :=
  if (s.door d).state = .inactive then
    let s := doorStarts d s
    takeInAnyOrder (standingSources s d) (arrive d) s
  else s

/-! ### SET_ACTIVE (R177) -/

/-- The working settings with a unit's active flag set or cleared. -/
def Settings.withActive (p : Settings) (u : UnitName) (on : Bool) : Settings :=
  match u with
  | .controller => p
  | .channel c => p.withChannel c { p.channels[c] with active := on }
  | .fan f => p.withFan f { p.fans[f] with active := on }
  | .door d => p.withDoor d { p.doors[d] with active := on }

/-- The unit switched off or on. -/
def switchUnit (u : UnitName) (on : Bool) (s : State) : State :=
  match u, on with
  | .controller, _ => s
  | .channel c, false => channelOff c s
  | .channel c, true => channelOn c s
  | .fan f, false => fanOff f s
  | .fan f, true => fanOn f s
  | .door d, false => doorOff d s
  | .door d, true => doorOn d s

/-- Units 1 to 14. -/
def switchableUnit (u : Nat) : Option UnitName := if u = 0 then none else unitOf u

def setActiveTaken : Handler := fun payload s =>
  match payload with
  | [u, on] => withUnit (switchableUnit u.toNat) (fun unit s =>
      if 3 ≤ s.store.lockLevel then refuse .locked s
      else if 1 < on.toNat then refuse .badParam s
      else done [] (switchUnit unit (on == 1) (s.withSettings (s.settings.withActive unit (on == 1))))) s
  | _ => refuse .badLength s

def setActive (dest : Byte) (payload : List Byte) (s : State) : State := request 0x24 dest payload setActiveTaken s

def execSetActive (dest : Byte) (payload : List Byte) (s : State) : Answer := .next (setActive dest payload s)

/-! ### SET_SCENARIO (R134) -/

/-- A fan entry, its speed clamped; `none` for a fan or a direction that is none. -/
def fanEntryOf (fan dir : Byte) (speed : Nat) (delay : Byte) : Option FanEntry :=
  match indexOf 4 fan.toNat, dirOfCode dir.toNat with
  | some f, some d => some { fan := f, dir := d, speed := min speed 1000, delay := delay.toNat }
  | _, _ => none

/-- `n` fan entries and the bytes behind them. -/
def readFanEntries : Nat → List Byte → Option (List FanEntry × List Byte)
  | 0, bs => some ([], bs)
  | n + 1, f :: d :: hi :: lo :: t :: bs =>
    match fanEntryOf f d (ofBytes [hi, lo]) t, readFanEntries n bs with
    | some e, some (es, rest) => some (e :: es, rest)
    | _, _ => none
  | _ + 1, _ => none

def doorEntryOf (door policy : Byte) : Option DoorEntry :=
  match indexOf 2 door.toNat, doorPolicyOfCode policy.toNat with
  | some d, some p => some { door := d, policy := p }
  | _, _ => none

/-- `n` door entries. -/
def readDoorEntries : Nat → List Byte → Option (List DoorEntry)
  | 0, _ => some []
  | n + 1, d :: p :: bs =>
    match doorEntryOf d p, readDoorEntries n bs with
    | some e, some es => some (e :: es)
    | _, _ => none
  | _ + 1, _ => none

/-- The entries name no fan and no door twice. -/
def ScenarioRecord.distinct (r : ScenarioRecord) : Bool := (r.fans.map (·.fan)).Nodup && (r.doors.map (·.door)).Nodup

/-- The record that entry bytes spell; `none` where R134 refuses them with BAD_PARAM. -/
def recordOf (f d : Nat) (entries : List Byte) : Option ScenarioRecord :=
  match readFanEntries f entries with
  | none => none
  | some (fans, rest) =>
    match readDoorEntries d rest with
    | none => none
    | some doors =>
      let r : ScenarioRecord := { fans := fans, doors := doors }
      if r.distinct then some r else none

/-- The settings with record `n`, from 1 to 15, replaced. -/
def Settings.withScenario (p : Settings) (n : Nat) (r : ScenarioRecord) : Settings :=
  match indexOf 15 (n - 1) with
  | some i => { p with scenarios := p.scenarios.set i r }
  | none => p

/-- The checks of R134 behind the length, in their order. -/
def writeScenario (n f d : Nat) (entries : List Byte) (s : State) : State × Reply :=
  if 2 ≤ s.store.lockLevel then refuse .locked s
  else if !within 1 15 n then refuse .outOfRange s
  else match recordOf f d entries with
    | some r => done [] (s.withSettings (s.settings.withScenario n r))
    | none => refuse .badParam s

def setScenarioTaken : Handler := fun payload s =>
  match payload with
  | n :: f :: d :: entries =>
    if f.toNat ≤ 4 ∧ d.toNat ≤ 2 ∧ entries.length = 5 * f.toNat + 2 * d.toNat then
      writeScenario n.toNat f.toNat d.toNat entries s
    else refuse .badLength s
  | _ => refuse .badLength s

def setScenario (dest : Byte) (payload : List Byte) (s : State) : State := request 0x25 dest payload setScenarioTaken s

def execSetScenario (dest : Byte) (payload : List Byte) (s : State) : Answer := .next (setScenario dest payload s)

end Sys2Proof.Machine
end

