-- ==== Sys2Proof/Machine/DriveRequests.lean ====
section
/-! DEFINITION. The requests that drive the part: modes, fans, demand floor, arming and engagement, doors (R37, R44, R59,
R105, R112, R113, R131, R142 to R144, R151). -/

namespace Sys2Proof.Machine

/-! ### SET_MODE (R131) -/

/-- The mode of a SET_MODE value, if it is one of its two. -/
def requestedMode (v : Nat) : Option Mode := if v = 0 then some .auto else if v = 1 then some .manual else none

/-- The mode taken; the mode already held changes nothing. -/
def changeMode (m : Mode) (s : State) : State :=
  if s.modes.mode = m then s
  else match m with
    | .auto => leaveManual .setMode s
    | .manual => enterManual s
    | .incident => s

def setModeTaken : Handler := withByte fun v s =>
  match requestedMode v with
  | none => refuse .badParam s
  | some m =>
    if s.incident then refuse .refused s
    else if m = .manual ∧ s.maint.asserted = false then refuse .noKey s
    else done [] (changeMode m s)

def setMode (dest : Byte) (payload : List Byte) (s : State) : State := request 0x30 dest payload setModeTaken s

def execSetMode (dest : Byte) (payload : List Byte) (s : State) : Answer := .next (setMode dest payload s)

/-! ### FAN_SET, FAN_CLEAR, RESUME, DEMAND_FLOOR (R44, R59, R151, R37) -/

/-- The pair becomes the MANUAL setpoint and the mode target (R44). -/
def takeSetpoint (f : Fin 4) (t : Target) (s : State) : State :=
  setModeTarget f t (s.withFan f { s.fan f with setpoint := some t })

def fanSetTaken : Handler := fun payload s =>
  match payload with
  | [u, dir, hi, lo] => withUnit (fanOfUnit u.toNat) (fun f s =>
      match dirOfCode dir.toNat with
      | none => refuse .badParam s
      | some d =>
        let speed := min (ofBytes [hi, lo]) 1000
        if s.modes.mode = .manual then done (be16 speed) (takeSetpoint f { dir := d, speed := speed } s)
        else refuse .refused s) s
  | _ => refuse .badLength s

def fanSet (dest : Byte) (payload : List Byte) (s : State) : State := request 0x31 dest payload fanSetTaken s

def execFanSet (dest : Byte) (payload : List Byte) (s : State) : Answer := .next (fanSet dest payload s)

def fanClearTaken : Handler := withByte fun u => withUnit (fanOfUnit u) fun f s =>
  if (s.fan f).state = .lockedOut then done [] (clearLockout f s) else refuse .refused s

def fanClear (dest : Byte) (payload : List Byte) (s : State) : State := request 0x32 dest payload fanClearTaken s

def execFanClear (dest : Byte) (payload : List Byte) (s : State) : Answer := .next (fanClear dest payload s)

/-- HELD cleared on every fan, and the targets of the OFF fans re-applied; with no fan HELD nothing changes (R151). -/
def resumeFans (s : State) : State :=
  if allFans.any fun f => (s.fan f).held then
    takeInAnyOrder allFans (resumeFan .target) (takeEach allFans (fun f s => s.withFan f { s.fan f with held := false }) s)
  else s

def resumeTaken : Handler := withNothing fun s =>
  if s.stop.asserted then refuse .refused s else done [] (resumeFans s)

def resume (dest : Byte) (payload : List Byte) (s : State) : State := request 0x33 dest payload resumeTaken s

def execResume (dest : Byte) (payload : List Byte) (s : State) : Answer := .next (resume dest payload s)

/-- The floor taken, and the stage recomputed (R37). -/
def takeFloor (n : Nat) (s : State) : State := recomputeDemand (s.withDemand { s.demand with floor := min n 3 })

def demandFloorTaken : Handler := withByte fun n s =>
  let t := takeFloor n s
  done [byteOf t.demand.floor, byteOf t.demand.stage] t

def demandFloor (dest : Byte) (payload : List Byte) (s : State) : State := request 0x34 dest payload demandFloorTaken s

def execDemandFloor (dest : Byte) (payload : List Byte) (s : State) : Answer := .next (demandFloor dest payload s)

/-! ### ARM, DISARM, ENGAGE, ENGAGE_NOW (R142 to R144) -/

def withArmed (a : Option Armed) (s : State) : State := s.withModes { s.modes with armed := a }

def armTaken : Handler := fun payload s =>
  match payload with
  | [n, tag] =>
    if within 1 15 n.toNat && within 1 255 tag.toNat then
      done [] (withArmed (some { scenario := n.toNat, tag := tag.toNat }) s)
    else refuse .outOfRange s
  | _ => refuse .badLength s

def arm (dest : Byte) (payload : List Byte) (s : State) : State := broadcastRequest 0x40 dest payload armTaken s

def execArm (dest : Byte) (payload : List Byte) (s : State) : Answer := .next (arm dest payload s)

def disarmTaken : Handler := withNothing fun s => done [] (withArmed none s)

def disarm (dest : Byte) (payload : List Byte) (s : State) : State := broadcastRequest 0x41 dest payload disarmTaken s

def execDisarm (dest : Byte) (payload : List Byte) (s : State) : Answer := .next (disarm dest payload s)

/-- The armed record carries this tag. -/
def armedMatch (s : State) (tag : Nat) : Option Armed := s.modes.armed.filter fun a => a.tag == tag

def engageTaken : Handler := withByte fun tag s =>
  if tag = 0 then done [] (engageScenario 0 .engage 0 s)
  else match armedMatch s tag with
    | some a => done [] (engageScenario a.scenario .engage tag s)
    | none => refuse .refused (report 0 (.engageMissed tag (armedTag s) (armedScenario s)) s)

def engage (dest : Byte) (payload : List Byte) (s : State) : State := broadcastRequest 0x42 dest payload engageTaken s

def execEngage (dest : Byte) (payload : List Byte) (s : State) : Answer := .next (engage dest payload s)

def engageNowTaken : Handler := withByte fun n s =>
  if 15 < n then refuse .outOfRange s else done [] (engageScenario n .engageNow 0 s)

def engageNow (dest : Byte) (payload : List Byte) (s : State) : State := request 0x43 dest payload engageNowTaken s

def execEngageNow (dest : Byte) (payload : List Byte) (s : State) : Answer := .next (engageNow dest payload s)

/-! ### DOOR_TRAVEL, DOOR_ABORT, DOOR_ESCAPE (R105, R112, R113) -/

/-- The disposition of a DOOR_TRAVEL reply (10.7). -/
inductive Disposition where
  | started | homing | queued
  deriving DecidableEq, Repr

def Disposition.code : Disposition → Nat
  | .started => 0
  | .homing => 1
  | .queued => 2

/-- The record a DOOR_TRAVEL forms (R96, R112). -/
def supervisoryTravel (dir : DoorDir) (mode : TravelMode) (given : Option Nat) : Travel :=
  { dir := dir, mode := mode, given := given, target := none, reason := .supervisory, forced := false }

/-- The refusal of a DOOR_TRAVEL by its steps 3 to 6 (R112). -/
def travelRefusal (s : State) (d : Fin 2) (dir : DoorDir) (mode : TravelMode) (queue : Bool) : Option ResultCode :=
  let x := s.door d
  if x.state = .inactive ∨ x.state = .fault then some .refused
  else if mode ≠ .full ∧ s.maint.asserted = false then some .noKey
  else if dir = .toClose ∧ x.escape.active = true then some .refused
  else if travelling x.state = true ∧ queue = false then some .busy
  else none

/-- What becomes of an accepted record (R112). -/
def dispositionOf (x : Door) (t : Travel) : Disposition :=
  if travelling x.state then .queued
  else if x.state = .unhomed ∧ (x.raised t).reason ≠ .escape then .homing
  else .started

/-- An accepted DOOR_TRAVEL (R112). -/
def takeTravel (d : Fin 2) (t : Travel) (s : State) : State :=
  if travelling (s.door d).state then placeInSlot d t s else startTravel d t s

def doorTravelTaken : Handler := fun payload s =>
  match payload with
  | [u, dir, mode, flags, hi, lo] => withUnit (doorOfUnit u.toNat) (fun d s =>
      match doorDirOfCode dir.toNat, travelModeOfCode mode.toNat with
      | some dir, some mode =>
        match travelRefusal s d dir mode (flags.getLsbD 0) with
        | some e => refuse e s
        | none =>
          let t := supervisoryTravel dir mode (if flags.getLsbD 1 then some (ofBytes [hi, lo]) else none)
          done [byteOf (dispositionOf (s.door d) t).code] (takeTravel d t s)
      | _, _ => refuse .badParam s) s
  | _ => refuse .badLength s

def doorTravel (dest : Byte) (payload : List Byte) (s : State) : State := request 0x50 dest payload doorTravelTaken s

def execDoorTravel (dest : Byte) (payload : List Byte) (s : State) : Answer := .next (doorTravel dest payload s)

/-- A DOOR_ABORT is refused against an escape travel and while the reopen timer runs (R113). -/
def abortRefused (x : Door) : Bool :=
  (x.travel.any fun t => t.reason == .escape) ||
    ((x.state == .halted || x.state == .unhomed) && x.reopen.isSome)

def doorAbortTaken : Handler := withByte fun u => withUnit (doorOfUnit u) fun d s =>
  if abortRefused (s.door d) then refuse .refused s
  else if (s.door d).travel.isSome then done [] (endTravel d .aborted (clearSlot d s))
  else done [] s

def doorAbort (dest : Byte) (payload : List Byte) (s : State) : State := request 0x51 dest payload doorAbortTaken s

def execDoorAbort (dest : Byte) (payload : List Byte) (s : State) : Answer := .next (doorAbort dest payload s)

def doorEscapeTaken : Handler := withByte fun u => withUnit (doorOfUnit u) fun d s =>
  if (s.door d).state = .inactive then refuse .refused s else done [] (arrive d .supervisory s)

def doorEscape (dest : Byte) (payload : List Byte) (s : State) : State := request 0x52 dest payload doorEscapeTaken s

def execDoorEscape (dest : Byte) (payload : List Byte) (s : State) : Answer := .next (doorEscape dest payload s)

end Sys2Proof.Machine
end

