-- ==== Sys2Proof/Machine/Receiver.lean ====
section
/-! DEFINITION. The receiver of the niche line at single characters (R157): the characters of a frame, one after another, up to
the dispatch of the frame they complete. -/

namespace Sys2Proof.Machine

/-- What a complete frame brings, by the request it spells (R157, R158); the commands that are no frame bring nothing. -/
def takeRequest (i : Instr) (s : State) : State :=
  match i with
  | .invalidFrame flaw => invalidFrame flaw s
  | .unknownKind dest kind payload => unknownKind dest kind payload s
  | .enumStart dest payload => enumStart dest payload s
  | .enumProbe dest payload => enumProbe dest payload s
  | .enumAssign dest payload => enumAssign dest payload s
  | .enumEnd dest payload => enumEnd dest payload s
  | .identify dest payload => identify dest payload s
  | .status dest payload => status dest payload s
  | .readChannel dest payload => readChannel dest payload s
  | .readFan dest payload => readFan dest payload s
  | .readDoor dest payload => readDoor dest payload s
  | .getParam dest payload => getParam dest payload s
  | .setParam dest payload => setParam dest payload s
  | .save dest payload => save dest payload s
  | .lock dest payload => lock dest payload s
  | .setActive dest payload => setActive dest payload s
  | .setScenario dest payload => setScenario dest payload s
  | .getScenario dest payload => getScenario dest payload s
  | .setMode dest payload => setMode dest payload s
  | .fanSet dest payload => fanSet dest payload s
  | .fanClear dest payload => fanClear dest payload s
  | .resume dest payload => resume dest payload s
  | .demandFloor dest payload => demandFloor dest payload s
  | .arm dest payload => arm dest payload s
  | .disarm dest payload => disarm dest payload s
  | .engage dest payload => engage dest payload s
  | .engageNow dest payload => engageNow dest payload s
  | .doorTravel dest payload => doorTravel dest payload s
  | .doorAbort dest payload => doorAbort dest payload s
  | .doorEscape dest payload => doorEscape dest payload s
  | .poll dest payload => poll dest payload s
  | .reset dest payload => resetRequest dest payload s
  | .powerOnReset _ _ => s
  | .warmReset _ => s
  | .sampleInstant _ _ => s
  | .rampInstant _ => s
  | .startLimitExpiry _ => s
  | .verifyWindowExpiry _ => s
  | .faultInputChange _ _ => s
  | .coastConditionsMet _ => s
  | .creditRegeneration _ => s
  | .acceptedEdge _ _ _ => s
  | .tachTimeout _ => s
  | .encoderEdge _ _ => s
  | .endStopChange _ _ _ => s
  | .safetyEdgeChange _ _ => s
  | .presenceChange _ _ => s
  | .escapeButtonPress _ _ _ => s
  | .serviceButtonPress _ _ => s
  | .serviceButtonRelease _ _ => s
  | .settleExpiry _ => s
  | .travelTimeout _ => s
  | .holdOpenExpiry _ => s
  | .reopenExpiry _ => s
  | .reliefTimeout _ => s
  | .blindReliefExpiry _ => s
  | .startDelayExpiry _ => s
  | .linkTimeout => s
  | .stopAsserted => s
  | .stopReleased => s
  | .escapeAsserted => s
  | .escapeReleased => s
  | .maintAsserted => s
  | .maintReleased => s
  | .rxGapTimeout => s
  | .replySent _ => s
  | .replyCancelled => s
  | .saveComplete _ => s
  | .startByte _ => s
  | .framingError => s

/-- The characters received are a whole frame: a header, the payload that its length byte declares, and the CRC (R156). -/
def frameComplete (bytes : List Byte) : Bool := bytes.length == 7 + (bytes.getD 4 0).toNat

/-- A character taken in RECEIVING (R157): a length byte above 96 discards the partial frame, the last CRC byte completes the
frame, which is then checked and dispatched, and any other character is appended. -/
def appendCharacter (bytes : List Byte) (s : State) : State :=
  if bytes.length = 5 ∧ Config.maxPayload < (bytes.getD 4 0).toNat then hunting s
  else if frameComplete bytes then
    match frameCommand bytes with
    | some i => takeRequest i (hunting s)
    | none => hunting s
  else receiving bytes s

/-- A character with its stop bit (R157, R159); while the controller transmits, its receiver takes none. -/
def startByte (char : Byte) (s : State) : State :=
  if s.line.transmitting then s
  else match s.line.receiver with
    | .hunt => huntCharacter char s
    | .receiving bytes => appendCharacter (bytes ++ [char]) s

def execStartByte (s : State) (char : Byte := 0xB6) : Answer := .next (startByte char s)

end Sys2Proof.Machine
end

