-- ==== Sys2Proof/Machine/Tick.lean ====
section
/-! DEFINITION. One millisecond with no command waiting (log entry 1): the time base and every running timer advance,
and each expiry that is then due is taken, in any order. -/

namespace Sys2Proof.Machine

/-! ### The timers 1 ms further -/

/-- A tach input whose pin stands at the accepted level takes the 50 samples of 1 ms as they are (R66); one whose pin stands at
the other level takes them as the expiry `edge`. -/
def tickTach (t : Tach) : Tach := if t.pin = t.level then { t.run 1000 with disagreement := 0 } else t

/-- Off time and standstill time run while the outputs are off; the credit timer runs in every state (R54, R89). -/
def tickFan (x : Fan) : Fan :=
  let y := { x with tach := tickTach x.tach, creditTimer := x.creditTimer.map (· + 1) }
  if drives x.state then y else y.passTime 1

/-- The door timers; the hold-open timer is held at 0 by presence (R107). -/
def tickDoor (cfg : DoorSettings) (x : Door) : Door :=
  { x with
    settle := x.settle.map (· + 1)
    travelTimer := x.travelTimer.map (· + 1)
    holdOpen := if x.holdRuns cfg then x.holdOpen.map (· + 1) else x.holdOpen
    reopen := x.reopen.map (· + 1)
    reliefTimer := x.reliefTimer.map (· + 1) }

def tickDelay : Delay → Delay
  | .running ms => .running (ms + 1)
  | .absent => .absent
  | .expired => .expired

def tickModes (m : ModeControl) : ModeControl :=
  { m with
    delays := #v[tickDelay m.delays[0], tickDelay m.delays[1], tickDelay m.delays[2], tickDelay m.delays[3]]
    linkTimer := m.linkTimer.map (· + 1) }

/-- The time since the last character taken in RECEIVING, in whole milliseconds; a gap of more than 4 ms is found at 5 of them
(R157; log entry 26). -/
def tickReceiver (l : LineInterface) : LineInterface := { l with rxGap := l.rxGap.map (· + 1) }

def tickLine (l : HardLine) : HardLine := { l with settle := l.settle.map (· + 1) }

def tickReports (q : ReportQueue) : ReportQueue := { q with timeBase := q.timeBase + 1 }

/-- Every timer 1 ms further; the start-phase and verify timers advance at ramp instants instead (R73, R75). -/
def advanceTimers (s : State) : State :=
  { s with
    fans := #v[tickFan (s.fan 0), tickFan (s.fan 1), tickFan (s.fan 2), tickFan (s.fan 3)]
    doors := #v[tickDoor (s.doorCfg 0) (s.door 0), tickDoor (s.doorCfg 1) (s.door 1)]
    modes := tickModes s.modes
    stop := tickLine s.stop
    escape := tickLine s.escape
    maint := tickLine s.maint
    line := tickReceiver s.line
    reports := tickReports s.reports }

/-! ### The expiries -/

/-- The expiries that the passing of time brings. -/
inductive Expiry where
  | coast (f : Fin 4)
  | startLimit (f : Fin 4)
  | verify (f : Fin 4)
  | credit (f : Fin 4)
  | tach (f : Fin 4)
  | edge (f : Fin 4)
  | delay (f : Fin 4)
  | settle (d : Fin 2)
  | travelStep (d : Fin 2)
  | travel (d : Fin 2)
  | hold (d : Fin 2)
  | reopen (d : Fin 2)
  | blind (d : Fin 2)
  | relief (d : Fin 2)
  | link
  | gap
  | stop
  | escape
  | maint
  deriving DecidableEq, Repr

/-- A running timer has reached its limit. -/
def reached (timer : Option Nat) (limit : Nat) : Bool := timer.any fun t => limit ≤ t

/-- A travel timer or relief timer that stands at a step of 100 ms (R97, R99, R120, R122). -/
def atStep (timer : Option Nat) : Bool := timer.any fun t => t % 100 == 0

/-- At this step of the travel timer a condition of R99 holds that no test has met before: the escape travel that a travel was
raised to may have its target behind the door (R96). TIMED_OUT is the expiry `travel`, and the two may be taken in either order. -/
def travelStepEnds (cfg : DoorSettings) (x : Door) : Bool :=
  (x.motorOpen || x.motorClose) && atStep x.travelTimer && (x.termination cfg false).any (· != .timedOut)

/-- The blind relief time is reached at this step, while the last observation found no usable average (R123). -/
def blindDue (cfg : DoorSettings) (x : Door) : Bool :=
  x.state == .relieving && !x.observedUsable && atStep x.reliefTimer && reached x.reliefTimer (cfg.blindTime * 1000)

/-- The relief timeout is reached at this step, and blind relief does not end at it (R122, R123). -/
def reliefDue (cfg : DoorSettings) (x : Door) : Bool :=
  x.state == .relieving && atStep x.reliefTimer && reached x.reliefTimer (cfg.reliefTimeout * 1000) && !blindDue cfg x

/-- The start delay of a fan has reached its entry's delay (R137). -/
def delayDue (s : State) (f : Fin 4) : Bool :=
  match s.modes.delays[f], engagedEntry s f with
  | .running t, some e => decide (e.delay * 1000 ≤ t)
  | _, _ => false

/-- The expiry is due in this state. -/
def Expiry.due (s : State) : Expiry → Bool
  | .coast f => ((s.fan f).state == .coasting || ((s.fan f).state == .tripped && !(s.fan f).faultInput)) &&
      coastMet (s.fanCfg f) (s.fan f)
  | .startLimit f => startLimitReached s f
  | .verify f => verifyWindowReached s f
  | .credit f => creditDue (s.fanCfg f) (s.fan f)
  | .tach f => reached (s.fan f).tach.timeout tachLimit
  | .edge f => (s.fan f).tach.pin != (s.fan f).tach.level
  | .delay f => delayDue s f
  | .settle d => (s.door d).state == .unlocking && reached (s.door d).settle 200
  | .travelStep d => travelStepEnds (s.doorCfg d) (s.door d)
  | .travel d => reached (s.door d).travelTimer ((s.doorCfg d).travelLimit * 1000)
  | .hold d => (s.door d).holdRuns (s.doorCfg d) && reached (s.door d).holdOpen ((s.doorCfg d).holdOpenTime * 1000)
  | .reopen d => reached (s.door d).reopen 2000
  | .blind d => blindDue (s.doorCfg d) (s.door d)
  | .relief d => reliefDue (s.doorCfg d) (s.door d)
  | .link => reached s.modes.linkTimer (s.ctl.linkTimeout * 1000)
  | .gap => reached s.line.rxGap 5
  | .stop => reached s.stop.settle 20
  | .escape => reached s.escape.settle 20
  | .maint => reached s.maint.settle 20

/-- What the expiry does: the effect of the command of its row; a step of the travel timer makes the tests of R99. -/
def Expiry.act (s : State) : Expiry → State
  | .coast f => coastTest f s
  | .startLimit f => startLimitExpiry f s
  | .verify f => verifyWindowExpiry f s
  | .credit f => creditRegeneration f s
  | .tach f => tachTimeout f s
  | .edge f => tachTakesSamples f 50 s
  | .delay f => startDelayExpiry f s
  | .settle d => settleExpiry d s
  | .travelStep d => testTravel d s
  | .travel d => travelTimeout d s
  | .hold d => holdOpenExpiry d s
  | .reopen d => reopenExpiry d s
  | .blind d => testStart d (endRelief d .blind s)
  | .relief d => testStart d (endRelief d .timeout s)
  | .link => linkTimeout s
  | .gap => rxGapTimeout s
  | .stop => stopAsserted s
  | .escape => escapeAsserted s
  | .maint => maintAsserted s

/-- An expiry is taken if it is still due: one taken before it may have ended its timer. -/
def Expiry.take (e : Expiry) (s : State) : State := if e.due s then e.act s else s

def fanExpiries (f : Fin 4) : List Expiry := [.coast f, .startLimit f, .verify f, .credit f, .tach f, .edge f, .delay f]

def doorExpiries (d : Fin 2) : List Expiry := [.settle d, .travelStep d, .travel d, .hold d, .reopen d, .blind d, .relief d]

def allExpiries : List Expiry :=
  allFans.flatMap fanExpiries ++ allDoors.flatMap doorExpiries ++ [.link, .gap, .stop, .escape, .maint]

/-- One millisecond passes: the timers advance, and the expiries then due are taken in any order. -/
def tick (s : State) : State :=
  let s := advanceTimers s
  takeInAnyOrder (allExpiries.filter fun e => e.due s) Expiry.take s

end Sys2Proof.Machine
end

