-- ==== Sys2Proof/Machine/Dispatch.lean ====
section
/-! DEFINITION. One arm for each command: a direct call of its meaning. -/

namespace Sys2Proof.Machine

def exec (i : Instr) (s : State) : Host.Outcome State Fault Refusal :=
  match i with
  | .powerOnReset straps pins => Sys2Proof.Machine.execPowerOnReset straps pins s
  | .warmReset pins => Sys2Proof.Machine.execWarmReset s pins
  | .sampleInstant c current => Sys2Proof.Machine.execSampleInstant c current s
  | .rampInstant f => Sys2Proof.Machine.execRampInstant f s
  | .startLimitExpiry f => Sys2Proof.Machine.execStartLimitExpiry f s
  | .verifyWindowExpiry f => Sys2Proof.Machine.execVerifyWindowExpiry f s
  | .faultInputChange f asserted => Sys2Proof.Machine.execFaultInputChange f asserted s
  | .coastConditionsMet f => Sys2Proof.Machine.execCoastConditionsMet f s
  | .creditRegeneration f => Sys2Proof.Machine.execCreditRegeneration f s
  | .acceptedEdge f high samples => Sys2Proof.Machine.execAcceptedEdge f high samples s
  | .tachTimeout f => Sys2Proof.Machine.execTachTimeout f s
  | .encoderEdge d edge => Sys2Proof.Machine.execEncoderEdge d edge s
  | .endStopChange d stop asserted => Sys2Proof.Machine.execEndStopChange d stop asserted s
  | .safetyEdgeChange d asserted => Sys2Proof.Machine.execSafetyEdgeChange d asserted s
  | .presenceChange d asserted => Sys2Proof.Machine.execPresenceChange d asserted s
  | .escapeButtonPress d side pressed => Sys2Proof.Machine.execEscapeButtonPress d side pressed s
  | .serviceButtonPress d dir => Sys2Proof.Machine.execServiceButtonPress d dir s
  | .serviceButtonRelease d dir => Sys2Proof.Machine.execServiceButtonRelease d dir s
  | .settleExpiry d => Sys2Proof.Machine.execSettleExpiry d s
  | .travelTimeout d => Sys2Proof.Machine.execTravelTimeout d s
  | .holdOpenExpiry d => Sys2Proof.Machine.execHoldOpenExpiry d s
  | .reopenExpiry d => Sys2Proof.Machine.execReopenExpiry d s
  | .reliefTimeout d => Sys2Proof.Machine.execReliefTimeout d s
  | .blindReliefExpiry d => Sys2Proof.Machine.execBlindReliefExpiry d s
  | .startDelayExpiry f => Sys2Proof.Machine.execStartDelayExpiry f s
  | .linkTimeout => Sys2Proof.Machine.execLinkTimeout s
  | .stopAsserted => Sys2Proof.Machine.execStopAsserted s
  | .stopReleased => Sys2Proof.Machine.execStopReleased s
  | .escapeAsserted => Sys2Proof.Machine.execEscapeAsserted s
  | .escapeReleased => Sys2Proof.Machine.execEscapeReleased s
  | .maintAsserted => Sys2Proof.Machine.execMaintAsserted s
  | .maintReleased => Sys2Proof.Machine.execMaintReleased s
  | .rxGapTimeout => Sys2Proof.Machine.execRxGapTimeout s
  | .invalidFrame flaw => Sys2Proof.Machine.execInvalidFrame flaw s
  | .unknownKind dest kind payload => Sys2Proof.Machine.execUnknownKind dest kind payload s
  | .replySent phase => Sys2Proof.Machine.execReplySent s phase
  | .replyCancelled => Sys2Proof.Machine.execReplyCancelled s
  | .enumStart dest payload => Sys2Proof.Machine.execEnumStart dest payload s
  | .enumProbe dest payload => Sys2Proof.Machine.execEnumProbe dest payload s
  | .enumAssign dest payload => Sys2Proof.Machine.execEnumAssign dest payload s
  | .enumEnd dest payload => Sys2Proof.Machine.execEnumEnd dest payload s
  | .identify dest payload => Sys2Proof.Machine.execIdentify dest payload s
  | .status dest payload => Sys2Proof.Machine.execStatus dest payload s
  | .readChannel dest payload => Sys2Proof.Machine.execReadChannel dest payload s
  | .readFan dest payload => Sys2Proof.Machine.execReadFan dest payload s
  | .readDoor dest payload => Sys2Proof.Machine.execReadDoor dest payload s
  | .getParam dest payload => Sys2Proof.Machine.execGetParam dest payload s
  | .setParam dest payload => Sys2Proof.Machine.execSetParam dest payload s
  | .save dest payload => Sys2Proof.Machine.execSave dest payload s
  | .saveComplete agrees => Sys2Proof.Machine.execSaveComplete agrees s
  | .lock dest payload => Sys2Proof.Machine.execLock dest payload s
  | .setActive dest payload => Sys2Proof.Machine.execSetActive dest payload s
  | .setScenario dest payload => Sys2Proof.Machine.execSetScenario dest payload s
  | .getScenario dest payload => Sys2Proof.Machine.execGetScenario dest payload s
  | .setMode dest payload => Sys2Proof.Machine.execSetMode dest payload s
  | .fanSet dest payload => Sys2Proof.Machine.execFanSet dest payload s
  | .fanClear dest payload => Sys2Proof.Machine.execFanClear dest payload s
  | .resume dest payload => Sys2Proof.Machine.execResume dest payload s
  | .demandFloor dest payload => Sys2Proof.Machine.execDemandFloor dest payload s
  | .arm dest payload => Sys2Proof.Machine.execArm dest payload s
  | .disarm dest payload => Sys2Proof.Machine.execDisarm dest payload s
  | .engage dest payload => Sys2Proof.Machine.execEngage dest payload s
  | .engageNow dest payload => Sys2Proof.Machine.execEngageNow dest payload s
  | .doorTravel dest payload => Sys2Proof.Machine.execDoorTravel dest payload s
  | .doorAbort dest payload => Sys2Proof.Machine.execDoorAbort dest payload s
  | .doorEscape dest payload => Sys2Proof.Machine.execDoorEscape dest payload s
  | .poll dest payload => Sys2Proof.Machine.execPoll dest payload s
  | .reset dest payload => Sys2Proof.Machine.execReset dest payload s
  | .startByte char => Sys2Proof.Machine.execStartByte s char
  | .framingError => Sys2Proof.Machine.execFramingError s

end Sys2Proof.Machine
end

