-- ==== Sys2Proof/Safety.lean ====
section
/-! DEFINITION. What claims speak of: what one event leaves unchanged, the state in which a request is dispatched, and the
invariants of the part. -/

namespace Sys2Proof.Machine

/-! ### Frames -/

/-- The queue after some reports have arrived at it, one after another (R170). -/
def Queued (q q' : ReportQueue) : Prop := ∃ l : List (Nat × ReportData), q' = l.foldl (fun q r => q.arrive r.1 r.2) q

/-- Only the fans, the feed arbiter, the report queue and the count of free choices may differ, and the queue only by
arrivals. -/
structure FanFrame (s t : State) : Prop where
  same : t = { s with fans := t.fans, arbiter := t.arbiter, reports := t.reports, choice := t.choice }
  queued : Queued s.reports t.reports

/-- As `FanFrame`, and the doors may differ too. -/
structure DoorFrame (s t : State) : Prop where
  same : t = { s with fans := t.fans, arbiter := t.arbiter, doors := t.doors, reports := t.reports, choice := t.choice }
  queued : Queued s.reports t.reports

/-- As `DoorFrame`, and the channels and the demand unit may differ too. -/
structure SampleFrame (s t : State) : Prop where
  same : t = { s with
    channels := t.channels, demand := t.demand, fans := t.fans, arbiter := t.arbiter, doors := t.doors,
    reports := t.reports, choice := t.choice }
  queued : Queued s.reports t.reports

/-- As `DoorFrame`, and the channels, the demand unit, the mode controller and the hardwired lines may differ too: the
line interface, the settings store and the command queue do not. -/
structure BlockFrame (s t : State) : Prop where
  same : t = { s with
    channels := t.channels, demand := t.demand, fans := t.fans, arbiter := t.arbiter, doors := t.doors,
    modes := t.modes, stop := t.stop, escape := t.escape, maint := t.maint, reports := t.reports, choice := t.choice }
  queued : Queued s.reports t.reports

/-- As `DoorFrame`, and the mode controller may differ too. -/
structure ModeFrame (s t : State) : Prop where
  same : t = { s with
    fans := t.fans, arbiter := t.arbiter, doors := t.doors, modes := t.modes, reports := t.reports, choice := t.choice }
  queued : Queued s.reports t.reports

/-- Every door but `d` is as it was. -/
def OtherDoors (d : Fin 2) (s t : State) : Prop := ∀ e, e ≠ d → t.door e = s.door e

/-- Every channel but `c` is as it was. -/
def OtherChannels (c : Fin 8) (s t : State) : Prop := ∀ e, e ≠ c → t.channel e = s.channel e

/-- The fan holds no grant and is on no list of the arbiter. -/
def Unserved (s : State) (f : Fin 4) : Prop :=
  f ∉ s.arbiter.holders ∧ s.arbiter.waiting[f] = false ∧ f ∉ s.arbiter.suspended

/-- Every other fan that the arbiter knows nothing of is as it was: the rest may be granted or suspended by what the
event frees or asks for (R81, R84). -/
def OtherFans (f : Fin 4) (s t : State) : Prop := ∀ g, g ≠ f → Unserved s g → t.fan g = s.fan g

/-- The event's first report is this one (R170). -/
def FirstReport (s t : State) (unit : Nat) (data : ReportData) : Prop := Queued (s.reports.arrive unit data) t.reports

/-- Among the event's reports is this one (R170). -/
def Reported (s t : State) (unit : Nat) (data : ReportData) : Prop :=
  ∃ q, Queued s.reports q ∧ Queued (q.arrive unit data) t.reports

/-- A fan after a trip (R57): off time and standstill time start from 0 where an output was on. -/
def Fan.afterTrip (x : Fan) (cause : TripCause) : Fan :=
  { x with
    state := .tripped, reference := 0, startTimer := none, verifyTimer := none, creditWait := false, suspended := false
    offTime := if drives x.state then 0 else x.offTime
    standstill := if drives x.state then 0 else x.standstill
    tripCount := min 255 (x.tripCount + 1), lastTrip := cause }

/-- A fan whose output has just gone off in COASTING (R53, R56, R148). -/
def Fan.afterCut (x : Fan) : Fan :=
  { x with
    state := .coasting, reference := 0, startTimer := none, verifyTimer := none, creditWait := false, suspended := false
    offTime := 0, standstill := 0 }

/-- A fan that has just taken a grant from AWAIT_GRANT (R48, R73, R88): its reference and its start-phase timer from 0, one
credit fewer where it had one. -/
def Fan.Started (x y : Fan) : Prop :=
  y.state = .starting ∧ y.latched = x.latched ∧ y.reference = 0 ∧ y.startTimer = some 0 ∧ y.limitUntested = false ∧
    y.credits = x.credits - 1 ∧ y.target = x.target

/-- No fan waits for a grant: the arbiter has nothing to give (R81). -/
def NoRequest (s : State) : Prop := (∀ f : Fin 4, s.arbiter.waiting[f] = false) ∧ s.arbiter.suspended = []

/-- Fan `f`, on no list in `s`, joins the waiting list with `n` credits and is then STARTING under a grant, one credit fewer, or
waits: STARTING where a slot is free and nobody else asks, waiting where every slot is held and no urgency holds (R48, R80, R81,
R88). -/
structure JoinsWaiting (f : Fin 4) (n : Nat) (s t : State) : Prop where
  either : ((t.fan f).state = .awaitGrant ∧ t.arbiter.waiting[f] = true ∧ (t.fan f).credits = n) ∨
    ((t.fan f).state = .starting ∧ f ∈ t.arbiter.holders ∧ (t.fan f).startTimer = some 0 ∧ (t.fan f).credits = n - 1)
  granted : NoRequest s → s.arbiter.holders.length < s.ctl.slotCount → (t.fan f).state = .starting
  waits : s.arbiter.urgency = false → s.ctl.slotCount ≤ s.arbiter.holders.length → (t.fan f).state = .awaitGrant

/-- The fan is at speed: it has no tach, or its measured rpm is at least the pass mark of its reference (R72, R77). -/
def AtSpeed (p : FanSettings) (x : Fan) : Prop :=
  p.pulsesPerRev = 0 ∨ p.ratedRpm * x.reference / 10000 * (100 - p.tolerance) / 100 ≤ x.tach.rpm

/-- The coast conditions (R54). -/
def CoastOver (p : FanSettings) (x : Fan) : Prop :=
  p.minDwell * 1000 ≤ x.offTime ∧ ((p.pulsesPerRev ≠ 0 ∧ 5000 ≤ x.standstill) ∨ p.coastLimit * 1000 ≤ x.offTime)

/-- A fan whose start phase has ended (R73). -/
def Fan.afterStart (x : Fan) : Fan :=
  { x with state := .running, startTimer := none, verifyTimer := some 0, stallNoted := false, creditWait := false,
           suspended := false }

/-- A measured speed reaches fan `f` with its tach input in state `y` (R71): the standstill time goes to 0 at a speed above 0
(R54), a start phase at its target ends where the fan is at speed (R73), a verify timer goes to 0 where it is (R75). -/
structure SpeedTaken (f : Fin 4) (y : Tach) (s t : State) : Prop where
  frame : FanFrame s t
  others : OtherFans f s t
  tach : (t.fan f).tach = y
  elsewhere : (s.fan f).state ≠ .starting → (s.fan f).state ≠ .running →
    t = s.withFan f { s.fan f with tach := y, standstill := if y.rpm = 0 then (s.fan f).standstill else 0 }
  running : (s.fan f).state = .running →
    (AtSpeed (s.fanCfg f) { s.fan f with tach := y } → t = s.withFan f { s.fan f with
      tach := y, standstill := if y.rpm = 0 then (s.fan f).standstill else 0, verifyTimer := some 0 }) ∧
    (¬ AtSpeed (s.fanCfg f) { s.fan f with tach := y } → t = s.withFan f { s.fan f with
      tach := y, standstill := if y.rpm = 0 then (s.fan f).standstill else 0 })
  startOver : (s.fan f).state = .starting → f ∈ s.arbiter.holders →
    (s.fan f).reference = (s.fan f).target.speed * 10 → AtSpeed (s.fanCfg f) { s.fan f with tach := y } →
    t.fan f = { s.fan f with tach := y, standstill := if y.rpm = 0 then (s.fan f).standstill else 0 }.afterStart ∧
      Unserved t f ∧ FirstReport s t (fanUnit f) (.fanState .running .startDone)
  startGoesOn : (s.fan f).state = .starting → NoRequest s →
    ¬ (f ∈ s.arbiter.holders ∧ (s.fan f).reference = (s.fan f).target.speed * 10 ∧
      AtSpeed (s.fanCfg f) { s.fan f with tach := y }) →
    t = s.withFan f { s.fan f with tach := y, standstill := if y.rpm = 0 then (s.fan f).standstill else 0 }

/-- Channel `c` ends the event at its level, the reports `q` queued before: a changed level is reported, and a contributing channel
then has the demand stage recomputed, which is reported behind it where it differs (R28, R34, R35). -/
structure LevelHanded (c : Fin 8) (q : ReportQueue) (s t : State) : Prop where
  kept : (t.channel c).level = (s.channel c).level ∨ (s.channelCfg c).contributes = false → t.demand = s.demand
  level : (t.channel c).level ≠ (s.channel c).level →
    Queued (q.arrive (channelUnit c) (.level (t.channel c).level (t.channel c).average)) t.reports
  stage : (t.channel c).level ≠ (s.channel c).level → (s.channelCfg c).contributes = true →
    t.demand = { s.demand with stage := demandStage t } ∧
    (demandStage t ≠ s.demand.stage →
      Queued ((q.arrive (channelUnit c) (.level (t.channel c).level (t.channel c).average)).arrive 0
        (.demand (demandStage t) s.demand.floor)) t.reports)

/-- No condition of R99 ends an opening at its start: the open end-stop and the safety edge clear, a travel time limit, a
homed door short of its target, and the service button held for a HOLD travel. -/
def ClearToOpen (cfg : DoorSettings) (x : Door) (t : Travel) : Prop :=
  x.inputs.openStop = false ∧ x.inputs.safetyEdge = false ∧ 1 ≤ cfg.travelLimit ∧
    (x.homed = true → ∀ p, t.target = some p → x.position < p - cfg.tolerance) ∧
    (t.mode = .hold → x.inputs.serviceOpen = true)

/-- The same for a closing. -/
def ClearToClose (cfg : DoorSettings) (x : Door) (t : Travel) : Prop :=
  x.inputs.closedStop = false ∧ x.inputs.safetyEdge = false ∧ 1 ≤ cfg.travelLimit ∧
    (x.homed = true → ∀ p, t.target = some p → p + cfg.tolerance < x.position) ∧
    (t.mode = .hold → x.inputs.serviceClose = true)

/-- The door has begun to move on travel `t`: the motor of its direction on, the travel timer from 0, CREEP as R94 has it,
and everything but the travel, its timers and its relief as it was. -/
structure MovesOn (cfg : DoorSettings) (x y : Door) (t : Travel) : Prop where
  state : y.state = match t.dir with
    | .toOpen => .opening
    | .toClose => .closing
  travel : y.travel = some t
  timer : y.travelTimer = some 0
  stopped : y.settle = none ∧ y.holdOpen = none ∧ y.reliefTimer = none ∧ y.reliefChannel = none
  creep : y.creep = (!x.homed || t.target.any fun p => near x.position p cfg.creepZone)
  kept : y.position = x.position ∧ y.homed = x.homed ∧ y.escape = x.escape ∧ y.retry = x.retry ∧
    y.unlockPolicy = x.unlockPolicy ∧ y.inputs = x.inputs

/-- The escape travel, current on a door (R96, R106). -/
def currentEscape (cfg : DoorSettings) : Travel := { escapeTravel with target := some cfg.openPosition }

/-- The current travel raised to an escape travel, its forced flag kept (R96). -/
def raisedTravel (cfg : DoorSettings) (t : Travel) : Travel :=
  { t with reason := .escape, mode := .full, given := none, target := some cfg.openPosition }

/-- A channel's average is usable (R20). -/
def Usable (ch : Channel) : Prop := (ch.state = .warming ∨ ch.state = .valid) ∧ ch.average ≠ none

/-- The average of a channel is usable and at most the limit in absolute value (R119). -/
def Passes (ch : Channel) (limit : Nat) : Prop := Usable ch ∧ ∀ a, ch.average = some a → a.natAbs ≤ limit

/-- A door whose state has been `x` makes the pressure check of an opening on travel `r`: it opens, relieves, or, blind with
no blind relief time, opens at once with its RELIEF report (R119, R120, R123, R127). -/
structure PressureChecked (d : Fin 2) (x : Door) (s t : State) (r : Travel) : Prop where
  opens : ((s.doorCfg d).pressureChannel = none ∨
      ∃ c, (s.doorCfg d).pressureChannel = some c ∧ Passes (s.channel c) (s.doorCfg d).pressureLimit) →
    ClearToOpen (s.doorCfg d) x r → MovesOn (s.doorCfg d) x (t.door d) r
  relieves : ∀ c, (s.doorCfg d).pressureChannel = some c → ¬ Passes (s.channel c) (s.doorCfg d).pressureLimit →
    (Usable (s.channel c) ∨ (s.doorCfg d).blindTime ≠ 0) → (r.mode = .hold → x.inputs.serviceOpen = true) →
    (t.door d).state = .relieving ∧ (t.door d).travel = some r ∧ (t.door d).reliefChannel = some c ∧
      (t.door d).reliefTimer = some 0 ∧ (t.door d).lastObserved = (s.channel c).average ∧ (t.door d).settle = none ∧
      (t.door d).position = x.position ∧ (t.door d).escape = x.escape ∧
      ∀ f, s.ctl.pressFan = some f → someDoorRelieving s = false → (t.fan f).reference ≤ (s.fanCfg f).relief * 10
  blind : ∀ c, (s.doorCfg d).pressureChannel = some c → ¬ Usable (s.channel c) → (s.doorCfg d).blindTime = 0 →
    ClearToOpen (s.doorCfg d) x r →
    Reported s t (doorUnit d) (.relief .blind 0 none) ∧ MovesOn (s.doorCfg d) x (t.door d) r

/-- The hold-open timer of a door that is OPEN with this escape-request set: started from 0 under auto-reclose with no holding
reason, else stopped (R107). -/
def holdFor (cfg : DoorSettings) (x : Door) (e : EscapeSet) : Option Nat :=
  if cfg.autoReclose = true ∧ e.escapeLine = false ∧ e.scenario = false ∧ x.recloseSuspended = false then some 0 else none

/-- What the arrival of a source does at a door, by its state (R98, R105, R106). -/
structure EscapeArrives (d : Fin 2) (src : EscapeSource) (s t : State) : Prop where
  inactive : (s.door d).state = .inactive → t = s
  reported : (s.door d).state ≠ .inactive → FirstReport s t (doorUnit d) (.doorRequest src)
  frame : DoorFrame s t
  others : OtherDoors d s t
  locked : (s.door d).state = .closedLocked →
    (t.door d).state = .unlocking ∧ (t.door d).settle = some 0 ∧ (t.door d).travel = some (currentEscape (s.doorCfg d)) ∧
      (t.door d).escape = (s.door d).escape.put true src ∧ (t.door d).recloseSuspended = false
  raises : (s.door d).state = .relieving ∨ (s.door d).state = .opening ∨
      ((s.door d).state = .unlocking ∧ ∀ r, (s.door d).travel = some r → r.dir = .toOpen) →
    t.door d = { s.door d with escape := (s.door d).escape.put true src, slot := none,
                               travel := (s.door d).travel.map (raisedTravel (s.doorCfg d)) }
  turns : ∀ r, (s.door d).state = .unlocking → (s.door d).travel = some r → r.dir = .toClose →
    (t.door d).state = .unlocking ∧ (t.door d).settle = (s.door d).settle ∧ (t.door d).slot = none ∧
      (t.door d).travel = some (currentEscape (s.doorCfg d)) ∧
      Reported s t (doorUnit d) (.doorDone .toClose .aborted (s.door d).position r.forced)
  rests : (s.door d).state = .isOpen →
    (t.door d).state = .isOpen ∧ (t.door d).travel = (s.door d).travel ∧
      (t.door d).escape = (s.door d).escape.put (!src.momentary) src ∧
      (t.door d).holdOpen = holdFor (s.doorCfg d) (s.door d) ((s.door d).escape.put true src) ∧ (t.door d).reopen = none
  moves : (s.door d).state = .closing ∨ (s.door d).state = .unhomed ∨ (s.door d).state = .fault ∨
      ((s.door d).state = .halted ∧ (s.door d).atZero (s.doorCfg d) = false) →
    ClearToOpen (s.doorCfg d) (s.door d) (currentEscape (s.doorCfg d)) →
    MovesOn (s.doorCfg d) { s.door d with escape := (s.door d).escape.put true src } (t.door d)
      (currentEscape (s.doorCfg d))
  aborts : ∀ r, (s.door d).state = .closing → (s.door d).travel = some r →
    ClearToOpen (s.doorCfg d) (s.door d) (currentEscape (s.doorCfg d)) →
    (t.door d).slot = none ∧ Reported s t (doorUnit d) (.doorDone r.dir .aborted (s.door d).position r.forced)
  checks : (s.door d).state = .closed ∨ ((s.door d).state = .halted ∧ (s.door d).atZero (s.doorCfg d) = true) →
    PressureChecked d { s.door d with escape := (s.door d).escape.put true src } s t (currentEscape (s.doorCfg d))

/-- Where a homed door rests after a travel of a direction whose motor ran, with its slot empty (R100, R109). -/
def restsAfter (cfg : DoorSettings) (x : Door) : DoorDir → DoorState
  | .toOpen => if x.atOpen cfg then .isOpen else .halted
  | .toClose =>
    if x.atZero cfg then
      if cfg.lockPolicy = .lockedWhenClosed ∧ x.unlockPolicy = false then .closedLocked else .closed
    else .halted

/-- Travel `r` of a door goes on under these settings: none of END_STOP, TARGET_REACHED, RELEASED and TIMED_OUT holds (R99). -/
structure GoesOn (cfg : DoorSettings) (x : Door) (r : Travel) : Prop where
  endStop : (match r.dir with
    | .toOpen => x.inputs.openStop
    | .toClose => x.inputs.closedStop) = false
  target : x.homed = true → ¬ (r.reason = .homing ∧ r.dir = .toClose) → ∀ p, r.target = some p →
    (r.dir = .toOpen → x.position < p - cfg.tolerance) ∧ (r.dir = .toClose → p + cfg.tolerance < x.position)
  held : r.mode = .hold → (match r.dir with
    | .toOpen => x.inputs.serviceOpen
    | .toClose => x.inputs.serviceClose) = true
  timer : ∀ ms, x.travelTimer = some ms → ms < cfg.travelLimit * 1000

/-- A homed door has reached the target of its travel, short of the end-stop of its direction (R99). -/
def TargetMet (cfg : DoorSettings) (x : Door) (r : Travel) : Prop :=
  x.homed = true ∧ r.reason ≠ .homing ∧ ∃ p, r.target = some p ∧
    ((x.state = .opening ∧ r.dir = .toOpen ∧ x.inputs.openStop = false ∧ p - cfg.tolerance ≤ x.position) ∨
    (x.state = .closing ∧ r.dir = .toClose ∧ x.inputs.closedStop = false ∧ x.position ≤ p + cfg.tolerance))

/-- No condition of R99 ends the current travel of a door, if it has one. -/
def NothingEnds (cfg : DoorSettings) (x : Door) : Prop :=
  travelling x.state = true → ∀ r, x.travel = some r →
    (x.state = .opening ∨ x.state = .closing → GoesOn cfg x r) ∧
    (r.mode = .hold → (match r.dir with
      | .toOpen => x.inputs.serviceOpen
      | .toClose => x.inputs.serviceClose) = true)

/-- The state of R100 that a door enters at the end of a travel whose motor ran, before it relocks. -/
def comesToRest (cfg : DoorSettings) (x : Door) (dir : DoorDir) : DoorState :=
  if x.homed then
    match dir with
    | .toOpen => if x.atOpen cfg then .isOpen else .halted
    | .toClose => if x.atZero cfg then .closed else .halted
  else .unhomed

/-- A door come to rest in a state, as the record in its slot finds it: the retries set in CLOSED, momentary sources consumed in
OPEN (R100, R105, R108). -/
def restedDoor (cfg : DoorSettings) (x : Door) (st : DoorState) : Door :=
  { x with
    state := st, travel := none, slot := none
    retry := if st = .closed then cfg.retries else x.retry
    escape := if st = .isOpen then { x.escape with tunnelButton := false, passageButton := false, supervisory := false }
      else x.escape }

/-- The current travel that a record becomes on a door at rest: raised where it opens under an escape request, its target fixed
(R96). -/
def becomesCurrent (cfg : DoorSettings) (x : Door) (n : Travel) : Travel :=
  if n.dir = .toOpen ∧ x.escape.active = true then
    { n with reason := .escape, mode := .full, given := none, target := some cfg.openPosition }
  else { n with target := some (match n.mode, n.given, n.dir with
    | .full, some g, _ => min (g : Int) cfg.openPosition
    | .step, _, .toOpen => max 0 (min (x.position + cfg.stepSize) cfg.openPosition)
    | .step, _, .toClose => max 0 (min (x.position - cfg.stepSize) cfg.openPosition)
    | _, _, .toOpen => cfg.openPosition
    | _, _, .toClose => 0) }

/-- The homing travel, current on a door (R110). -/
def currentHoming : Travel :=
  { dir := .toClose, mode := .full, given := none, target := some 0, reason := .homing, forced := false }

/-- The record `n`, taken from the slot of a door that rests as `x`, becomes current and starts from there, behind a homing travel
on a door that is not homed; the slot is empty then, but for a homing travel (R97, R100, R101, R110). -/
structure NextStarts (d : Fin 2) (x : Door) (n : Travel) (s t : State) : Prop where
  homes : x.state = .unhomed → (becomesCurrent (s.doorCfg d) x n).reason ≠ .escape → ClearToClose (s.doorCfg d) x currentHoming →
    MovesOn (s.doorCfg d) x (t.door d) currentHoming ∧ (t.door d).slot = some n
  slot : x.state ≠ .unhomed ∨ (becomesCurrent (s.doorCfg d) x n).reason = .escape → (t.door d).slot = none
  checks : x.state = .closed ∨ (x.state = .halted ∧ x.atZero (s.doorCfg d) = true) → n.dir = .toOpen →
    PressureChecked d x s t (becomesCurrent (s.doorCfg d) x n)
  opens : x.state = .isOpen ∨ (x.state = .halted ∧ x.atZero (s.doorCfg d) = false) ∨
      (x.state = .unhomed ∧ (becomesCurrent (s.doorCfg d) x n).reason = .escape) → n.dir = .toOpen →
    ClearToOpen (s.doorCfg d) x (becomesCurrent (s.doorCfg d) x n) →
    MovesOn (s.doorCfg d) x (t.door d) (becomesCurrent (s.doorCfg d) x n)
  closes : x.state = .isOpen ∨ x.state = .halted ∨ x.state = .closed → n.dir = .toClose →
    ClearToClose (s.doorCfg d) x (becomesCurrent (s.doorCfg d) x n) →
    MovesOn (s.doorCfg d) x (t.door d) (becomesCurrent (s.doorCfg d) x n)
  closedAtOnce : x.state = .isOpen ∨ x.state = .halted ∨ x.state = .closed → n.dir = .toClose → n.reason ≠ .homing →
    x.homed = true → x.inputs.closedStop = true ∨
      (∀ p, (becomesCurrent (s.doorCfg d) x n).target = some p → x.position ≤ p + (s.doorCfg d).tolerance) →
    Reported s t (doorUnit d) (.doorDone .toClose (if x.inputs.closedStop then .endStop else .targetReached) x.position
      n.forced) ∧ (t.door d).travel = none ∧ (t.door d).state = restsAfter (s.doorCfg d) x .toClose
  openedAtOnce : x.state = .isOpen ∨ (x.state = .halted ∧ x.atZero (s.doorCfg d) = false) → n.dir = .toOpen →
    x.homed = true → x.inputs.openStop = true ∨
      (∀ p, (becomesCurrent (s.doorCfg d) x n).target = some p → p - (s.doorCfg d).tolerance ≤ x.position) →
    Reported s t (doorUnit d) (.doorDone .toOpen (if x.inputs.openStop then .endStop else .targetReached) x.position
      n.forced) ∧ (t.door d).travel = none ∧ (t.door d).state = restsAfter (s.doorCfg d) x .toOpen

/-- Door `x` comes to rest in state `st` at the end of its travel: with an empty slot it stays there, and relocks in CLOSED; the
record of a loaded slot becomes current (R100 steps 4 and 5, R101, R109). -/
structure Rests (d : Fin 2) (x : Door) (st : DoorState) (s t : State) : Prop where
  empty : x.slot = none → (t.door d).travel = none ∧ (t.door d).slot = none ∧ (t.door d).state =
    if st = .closed ∧ (s.doorCfg d).lockPolicy = .lockedWhenClosed ∧ x.unlockPolicy = false then .closedLocked else st
  loaded : ∀ n, x.slot = some n → NextStarts d (restedDoor (s.doorCfg d) x st) n s t

/-! ### A request that reaches the controller -/

/-- No reply is pending or under way and no line was lost: a frame has no effect before its own. -/
def Quiet (s : State) : Prop :=
  s.line.reply = none ∧ s.line.resetRequested = false ∧ s.modes.lineLost = false ∧ s.line.transmitting = false

/-- A frame with this destination is addressed to the controller (R157). -/
def Addressed (s : State) (dest : Byte) : Prop := dest ≠ broadcast ∧ s.line.station = some dest.toNat

/-- A quiet controller, and a frame addressed to it. -/
def Ready (s : State) (dest : Byte) : Prop := Quiet s ∧ Addressed s dest

/-- The payload length a kind of the catalogue requires (10.7); that of SET_SCENARIO follows from its counts. -/
def requestLength (kind : Byte) : Option Nat :=
  match kind.toNat with
  | 0x01 | 0x12 | 0x13 | 0x14 | 0x23 | 0x26 | 0x30 | 0x32 | 0x34 | 0x42 | 0x43 | 0x51 | 0x52 => some 1
  | 0x02 | 0x03 => some 7
  | 0x04 | 0x10 | 0x11 | 0x22 | 0x33 | 0x41 | 0x60 | 0x70 => some 0
  | 0x20 | 0x24 | 0x40 => some 2
  | 0x21 | 0x31 => some 4
  | 0x50 => some 6
  | _ => none

/-- The kinds that are taken as a broadcast (10.7). -/
def takenAsBroadcast (kind : Byte) : Bool := [0x01, 0x02, 0x03, 0x04, 0x40, 0x41, 0x42].contains kind

/-- The state in which a quiet controller dispatches a valid frame: the link timer from 0, the receiver in HUNT
(R145, R157). -/
def dispatching (s : State) : State :=
  { s with modes := { s.modes with linkTimer := some 0 }, line := { s.line with receiver := .hunt, rxGap := none } }

/-- An addressed request answered with this result code and these fields (R158, R159). -/
def answered (kind dest : Byte) (code : ResultCode) (data : List Byte) (s : State) : State :=
  { s with line := { s.line with reply := some (frameBytes 0x00 dest (kind + 0x80) (byteOf code.code :: data)) } }

/-- The units a kind with a unit byte names (10.7); any other unit is answered BAD_UNIT (R158). -/
def unitRange (kind : Byte) : Option (Nat × Nat) :=
  match kind.toNat with
  | 0x12 => some (1, 8)
  | 0x13 | 0x31 | 0x32 => some (9, 12)
  | 0x14 | 0x50 | 0x51 | 0x52 => some (13, 14)
  | 0x20 | 0x21 => some (0, 14)
  | 0x24 => some (1, 14)
  | _ => none

/-! ### The feed arbiter -/

/-- The feed arbiter against the fans: at most S holders, each once, each STARTING; suspended fans STARTING, each once, and
no holders; a fan in AWAIT_GRANT, and no other, waits or is under CREDIT_WAIT, and not both; and a fan whose outputs
are off has a reference of 0 (R40, R79, R80, R84, R90). -/
structure ArbiterOk (s : State) : Prop where
  slots : s.arbiter.holders.length ≤ s.ctl.slotCount
  holdersOnce : s.arbiter.holders.Nodup
  holdersStart : ∀ f ∈ s.arbiter.holders, (s.fan f).state = .starting
  suspendedOnce : s.arbiter.suspended.Nodup
  suspendedStart : ∀ f ∈ s.arbiter.suspended, (s.fan f).state = .starting ∧ f ∉ s.arbiter.holders
  waitingAwait : ∀ f, s.arbiter.waiting[f] = true → (s.fan f).state = .awaitGrant ∧ (s.fan f).creditWait = false
  creditWaitAwait : ∀ f, (s.fan f).creditWait = true → (s.fan f).state = .awaitGrant
  awaits : ∀ f, (s.fan f).state = .awaitGrant → s.arbiter.waiting[f] = true ∨ (s.fan f).creditWait = true
  atRest : ∀ f, drives (s.fan f).state = false → (s.fan f).reference = 0

/-! ### Modes -/

/-- The AUTO target of a fan before boost and cap (R43, R46). -/
def autoWish (s : State) (f : Fin 4) : Target :=
  { dir := (s.fanCfg f).defaultDir
    speed := if s.ctl.pressFan = some f then (s.fanCfg f).standby
      else if s.demand.stage = 0 then (s.fanCfg f).speed0
      else if s.demand.stage = 1 then (s.fanCfg f).speed1
      else if s.demand.stage = 2 then (s.fanCfg f).speed2
      else (s.fanCfg f).speed3 }

/-- MANUAL left for AUTO: the MODE report before every report of a fan that the change of mode reaches, every setpoint discarded,
every fan at its AUTO target (R130, R132). -/
structure LeftManual (cause : ModeCause) (s t : State) : Prop where
  frame : FanFrame (s.withModes { s.modes with mode := .auto }) t
  reported : FirstReport s t 0 (.mode .auto s.modes.engaged cause 0)
  targets : ∀ f, (t.fan f).setpoint = none ∧ (t.fan f).modeTarget = autoWish t f ∧
    (t.fan f).target = composedTarget t f

/-- The mode target of a fan under record `r` at its engagement: its entry where the delay is 0, else the frozen target
(R136, R137, R138, R140). -/
def engagedWish (r : ScenarioRecord) (frozen : Target) (f : Fin 4) : Target :=
  match r.fans.find? fun e => e.fan == f with
  | some e => if e.delay = 0 then { dir := e.dir, speed := e.speed } else frozen
  | none => frozen

/-- A lockout that the engagement of a record with an entry for the fan clears (R59, R136 step 4). `wish` says that the fan's
present target is above 0 and its starts are permitted. The pressurisation fan, whose target the doors may still change behind
the clearing, is held to the first three lines; a FAULT input asserted at the entry to AWAIT_GRANT trips the fan there, with the
one DRIVE_FAULT report (R42, R57; log entry 29). -/
structure LockoutCleared (f : Fin 4) (s t : State) (wish : Prop) : Prop where
  memory : (t.fan f).lockoutMemory = false ∧ (t.fan f).state ≠ .lockedOut ∧ (t.fan f).tripCount ≤ 1
  fresh : (s.fan f).faultInput = false ∨ (s.ctl.pressFan ≠ some f ∧ ¬ wish) →
    (t.fan f).tripCount = 0 ∧ (t.fan f).lastTrip = .noTrip
  reported : (s.fan f).faultInput = false →
    Reported s t (fanUnit f) (.fanState .off .clear) ∨ Reported s t (fanUnit f) (.fanState .awaitGrant .clear)
  off : s.ctl.pressFan ≠ some f → ¬ wish →
    (t.fan f).state = .off ∧ Reported s t (fanUnit f) (.fanState .off .clear)
  waits : s.ctl.pressFan ≠ some f → wish → (s.fan f).faultInput = false →
    ((t.fan f).state = .awaitGrant ∧ t.arbiter.waiting[f] = true ∨ (t.fan f).state = .starting) ∧
      (t.fan f).latched = (t.fan f).target.dir ∧ Reported s t (fanUnit f) (.fanState .awaitGrant .clear)
  trips : s.ctl.pressFan ≠ some f → wish → (s.fan f).faultInput = true →
    (t.fan f).state = .tripped ∧ (t.fan f).tripCount = 1 ∧ (t.fan f).lastTrip = .driveFault ∧
      Reported s t (fanUnit f) (.fanState .tripped .driveFault)

/-- The removal of a door policy takes the door `x` to `y` (R104, R107, R109, R139). -/
structure PolicyRemoved (cfg : DoorSettings) (old : DoorPolicy) (x y : Door) : Prop where
  keep : old = .keep → y = x
  openHold : old = .openHold →
    (x.escape.scenario = false → y = x) ∧
    (x.escape.scenario = true → y = { x with
      escape := x.escape.put false .scenario
      reopen := if (x.escape.put false .scenario).active then x.reopen else none
      holdOpen := if x.escape.escapeLine = true ∨ x.recloseSuspended = true then x.holdOpen
        else if x.state = .isOpen then holdFor cfg x (x.escape.put false .scenario) else none })
  unlock : old = .unlock →
    (x.state = .closed ∧ cfg.lockPolicy = .lockedWhenClosed → y.state = .closedLocked ∧ y.unlockPolicy = false ∧
      y.position = x.position ∧ y.homed = x.homed ∧ y.escape = x.escape ∧ y.travel = x.travel ∧ y.slot = x.slot ∧
      y.inputs = x.inputs) ∧
    (¬ (x.state = .closed ∧ cfg.lockPolicy = .lockedWhenClosed) → y = { x with unlockPolicy := false })

/-- The application of a door policy (R106, R109, R139). -/
structure PolicyApplied (d : Fin 2) (new : DoorPolicy) (s t : State) : Prop where
  keep : new = .keep → t.door d = s.door d
  openHold : new = .openHold → EscapeArrives d .scenario s t
  unlock : new = .unlock →
    ((s.door d).state = .closedLocked → (t.door d).state = .closed ∧ (t.door d).unlockPolicy = true ∧
      (t.door d).position = (s.door d).position ∧ (t.door d).homed = (s.door d).homed ∧
      (t.door d).escape = (s.door d).escape ∧ (t.door d).travel = (s.door d).travel ∧
      (t.door d).slot = (s.door d).slot ∧ (t.door d).inputs = (s.door d).inputs) ∧
    ((s.door d).state ≠ .closedLocked → t.door d = { s.door d with unlockPolicy := true })

/-- Scenario `n` engaged: the mode controller, the fans and the doors afterwards (R59, R90, R136, R137, R139, R140, R143). -/
structure Engaged (n : Nat) (cause : ModeCause) (tag : Nat) (s t : State) : Prop where
  frame : ModeFrame s t
  reported : FirstReport s t 0 (.mode .incident n cause tag)
  mode : t.modes.mode = .incident ∧ t.modes.engaged = n ∧ t.modes.record = some (s.settings.scenario n) ∧
    t.modes.lineLost = s.modes.lineLost ∧ t.modes.linkTimer = s.modes.linkTimer
  frozen : t.modes.frozen = if s.modes.mode = .incident then s.modes.frozen else some (heldTargets s)
  armed : t.modes.armed = if cause = .engage then none else s.modes.armed
  delays : ∀ f : Fin 4, t.modes.delays[f] = match (s.settings.scenario n).fans.find? fun e => e.fan == f with
    | some e => if e.delay = 0 then .expired else .running 0
    | none => .absent
  targets : ∀ f, (t.fan f).modeTarget =
      engagedWish (s.settings.scenario n) ((t.modes.frozen.map fun v => v[f]).getD (s.fan f).modeTarget) f ∧
    (t.fan f).target = composedTarget t f
  setpoints : s.modes.mode ≠ .incident → ∀ f, (t.fan f).setpoint = none ∧ (t.fan f).creditWait = false ∧
    (Unserved s f → (s.fan f).creditWait = true → (t.fan f).state = .awaitGrant → t.arbiter.waiting[f] = true)
  lockouts : ∀ f, (∃ e ∈ (s.settings.scenario n).fans, e.fan = f) → (t.fan f).state ≠ .lockedOut ∧
    ((s.fan f).state = .lockedOut → Unserved s f → (s.fan f).creditWait = false →
      LockoutCleared f s t ((t.fan f).target.speed ≠ 0 ∧ s.stop.asserted = false ∧ (s.fan f).held = false))
  doors : ∀ d, let old := engagedPolicy (if s.modes.mode = .incident then s.modes.record else none) d
    let new := (s.settings.scenario n).doorPolicy d
    (old = new → t.door d = s.door d) ∧
    (old ≠ new → ∃ u v, u.store = s.store ∧ u.channels = s.channels ∧
      PolicyRemoved (s.doorCfg d) old (s.door d) (u.door d) ∧ PolicyApplied d new u v ∧ t.door d = v.door d) ∧
    (old ≠ new → new = .openHold → (s.door d).state ≠ .inactive →
      (t.door d).escape.scenario = true ∧ Reported s t (doorUnit d) (.doorRequest .scenario)) ∧
    (old ≠ new → new = .unlock → (t.door d).unlockPolicy = true ∧ (t.door d).state ≠ .closedLocked) ∧
    (old ≠ new → old = .openHold → (t.door d).escape.scenario = false) ∧
    (old ≠ new → old = .unlock → (t.door d).unlockPolicy = false)

/-- INCIDENT left for AUTO (R141). -/
structure LeftIncident (cause : ModeCause) (tag : Nat) (s t : State) : Prop where
  frame : ModeFrame s t
  reported : FirstReport s t 0 (.mode .auto 0 cause tag)
  modes : t.modes = { s.modes with mode := .auto, engaged := 0, record := none, delays := Vector.replicate 4 .absent,
                                   frozen := none }
  targets : ∀ f, (t.fan f).modeTarget = autoWish t f ∧ (t.fan f).target = composedTarget t f
  verify : ∀ f, (t.fan f).state = .running → (t.fan f).verifyTimer = some 0
  waits : ∀ f, t.arbiter.waiting[f] = true → (t.fan f).credits ≠ 0
  awaits : ArbiterOk s → ∀ f, (t.fan f).state = .awaitGrant →
    (t.arbiter.waiting[f] = true ∧ (t.fan f).credits ≠ 0 ∧ (t.fan f).creditWait = false) ∨
    (t.arbiter.waiting[f] = false ∧ (t.fan f).creditWait = true)
  doors : ∀ d, PolicyRemoved (s.doorCfg d) (engagedPolicy s.modes.record d) (s.door d) (t.door d)

/-! ### Which values SET_PARAM refuses (1.7, 3.9, 6.10, 12.1) -/

/-- The range of a numeric parameter. -/
def numericRange (u : UnitName) (i : Nat) : Option (Nat × Nat) :=
  match u, i with
  | .controller, 0 => some (1, 60)
  | .controller, 1 => some (1, 2)
  | .controller, 3 => some (0, 1)
  | .controller, 5 => some (0, 32)
  | .channel _, 1 => some (0, 4000)
  | .channel _, 2 => some (0, 65535)
  | .channel _, 3 => some (1, 64)
  | .channel _, 4 => some (1, 255)
  | .channel _, 8 => some (0, 32767)
  | .channel _, 9 => some (1, 255)
  | .channel _, 10 => some (1, 255)
  | .channel _, 11 => some (0, 3)
  | .channel _, 12 => some (0, 1)
  | .fan _, 1 => some (0, 1000)
  | .fan _, 2 => some (0, 1000)
  | .fan _, 3 => some (0, 1000)
  | .fan _, 4 => some (0, 1000)
  | .fan _, 5 => some (1, 1000)
  | .fan _, 6 => some (1, 1000)
  | .fan _, 7 => some (2, 60)
  | .fan _, 8 => some (10, 600)
  | .fan _, 9 => some (0, 16)
  | .fan _, 12 => some (100, 9999)
  | .fan _, 13 => some (5, 50)
  | .fan _, 14 => some (2, 60)
  | .fan _, 15 => some (5, 60)
  | .fan _, 16 => some (1, 12)
  | .fan _, 17 => some (1, 60)
  | .fan _, 18 => some (1, 10)
  | .fan _, 19 => some (0, 1000)
  | .fan _, 20 => some (0, 1000)
  | .fan _, 21 => some (0, 1000)
  | .door _, 0 => some (100, 30000)
  | .door _, 1 => some (0, 2000)
  | .door _, 2 => some (1, 100)
  | .door _, 3 => some (2, 60)
  | .door _, 4 => some (5, 600)
  | .door _, 5 => some (0, 1)
  | .door _, 8 => some (10, 500)
  | .door _, 9 => some (1, 30)
  | .door _, 10 => some (0, 10)
  | .door _, 11 => some (0, 5)
  | .door _, 12 => some (1, 1000)
  | _, _ => none

/-- The codes of a code-valued parameter run from 0 to below this, and 0xFFFF is one of them where the flag is set (10.7). -/
def codesOf (u : UnitName) (i : Nat) : Option (Nat × Bool) :=
  match u, i with
  | .controller, 2 => some (2, false)
  | .controller, 4 => some (4, true)
  | .channel _, 0 => some (6, false)
  | .fan _, 0 => some (2, false)
  | .door _, 6 => some (2, false)
  | .door _, 7 => some (8, true)
  | _, _ => none

/-- Two bytes read as a signed number (R167). -/
def signedValue (v : Nat) : Int := if v < 32768 then v else (v : Int) - 65536

/-- The gas kinds; the other three are signed (R1). -/
abbrev GasKind (k : ChannelKind) : Prop := k = .co ∨ k = .no2 ∨ k = .opacity

/-- The lower end of a kind's range, whose upper end is 32767 (R1). -/
def lowest (k : ChannelKind) : Int := if GasKind k then 0 else -32768

/-- The thresholds lie in the range of a kind, and T1 ≤ T2 ≤ T3 (R1, R18). -/
abbrev ThresholdsHold (k : ChannelKind) (t1 t2 t3 : Int) : Prop := lowest k ≤ t1 ∧ t1 ≤ t2 ∧ t2 ≤ t3 ∧ t3 ≤ 32767

/-- What the working settings further ask of a value in its range or among its codes (R18, R62, R115). -/
def Agrees (p : Settings) (u : UnitName) (i v : Nat) : Prop :=
  match u, i with
  | .channel c, 5 => ThresholdsHold p.channels[c].kind (signedValue v) p.channels[c].t2 p.channels[c].t3
  | .channel c, 6 => ThresholdsHold p.channels[c].kind p.channels[c].t1 (signedValue v) p.channels[c].t3
  | .channel c, 7 => ThresholdsHold p.channels[c].kind p.channels[c].t1 p.channels[c].t2 (signedValue v)
  | .channel c, 12 => v = 1 → GasKind p.channels[c].kind
  | .fan _, 10 => v = 1 ∨ v = 2 ∨ v = 4 ∨ v = 8
  | .fan _, 11 => v = 1 ∨ v = 2 ∨ v = 4 ∨ v = 8
  | .door _, 7 => ∀ c : Fin 8, v = c.val → p.channels[c].kind = .dpress
  | _, _ => True

/-- The value is among the codes of a code-valued parameter; any other value of one is refused with BAD_PARAM (R168). -/
def AmongCodes (u : UnitName) (i v : Nat) : Prop :=
  ∀ n withNone, codesOf u i = some (n, withNone) → v < n ∨ (withNone = true ∧ v = 0xFFFF)

/-- The value lies in its parameter's range and agrees with the working settings; one that does not is refused with OUT_OF_RANGE
(R18, R62, R115). -/
def InItsRange (p : Settings) (u : UnitName) (i v : Nat) : Prop :=
  (∀ lo hi, numericRange u i = some (lo, hi) → lo ≤ v ∧ v ≤ hi) ∧ Agrees p u i v

/-- The channel settings that an accepted kind leaves: the thresholds clamped into its range, the contribution kept for a gas
kind alone (R18). -/
def kindTaken (x : ChannelSettings) (k : ChannelKind) : ChannelSettings :=
  let clamped : Int → Int := fun t => max (lowest k) (min t 32767)
  { x with kind := k, t1 := clamped x.t1, t2 := clamped x.t2, t3 := clamped x.t3
           contributes := if GasKind k then x.contributes else false }

/-! ### What an accepted SET_PARAM does at once

`u` is the state with the new setting written, `t` the state that the write leads to. -/

/-- Controller parameters (R46, R83, R127, R145, R155). -/
structure ControllerWrite (i v : Nat) (old : Option (Fin 4)) (u t : State) : Prop where
  kept : i < 4 → t = u
  named : i = 4 → FanFrame u t ∧ t.arbiter.urgency = urgencyHolds u ∧
    (∀ f, u.ctl.pressFan = some f ∨ old = some f → (t.fan f).target = composedTarget t f ∧
      (u.modes.mode = .auto → (t.fan f).modeTarget = autoWish t f)) ∧
    ∀ f, u.ctl.pressFan = some f → someDoorRelieving u = true → (t.fan f).reference ≤ (u.fanCfg f).relief * 10
  station : i = 5 → t = if u.line.strap = 0 then
      u.withLine { u.line with station := if v = 0 then none else some v
                               source := if v = 0 then .unassigned else .enumerated }
    else u

/-- Channel parameters: the kind and the contribution recompute the demand stage, the substitute level of a channel in FAULT is
its level (R18, R30, R34, R35). -/
structure ChannelWrite (c : Fin 8) (i v : Nat) (u t : State) : Prop where
  kept : i ≠ 0 → i ≠ 11 → i ≠ 12 → t = u
  demand : i = 0 ∨ i = 12 →
    (demandStage u = u.demand.stage → t = u) ∧
    (demandStage u ≠ u.demand.stage → t.demand = { u.demand with stage := demandStage u } ∧
      FanFrame (u.withDemand t.demand) t ∧ FirstReport u t 0 (.demand (demandStage u) u.demand.floor))
  substitute : i = 11 →
    ((u.channel c).state ≠ .fault → t = u) ∧
    ((u.channel c).state = .fault →
      t.channel c = { u.channel c with level := v, upCount := 0, downCount := 0 } ∧ OtherChannels c u t ∧ SampleFrame u t ∧
      LevelHanded c u.reports u t)

/-- Fan parameters (R43, R54, R73, R74, R76, R77, R89, R126, R127); `relief` is the relief speed before the write. -/
structure FanWrite (f : Fin 4) (i v relief : Nat) (u t : State) : Prop where
  frame : FanFrame u t
  kept : i = 5 ∨ i = 6 ∨ i = 10 ∨ i = 11 ∨ i = 18 → t = u
  table : i < 5 ∨ i = 19 → (u.modes.mode ≠ .auto → t = u) ∧
    (u.modes.mode = .auto → OtherFans f u t ∧ (t.fan f).modeTarget = autoWish t f ∧ (t.fan f).target = composedTarget t f)
  coast : i = 7 ∨ i = 8 ∨ (i = 9 ∧ NoRequest u) → (u.fan f).offTime ≤ 600000 → (u.fan f).standstill ≤ 5000 →
    (u.fan f).state = .coasting ∨ (u.fan f).state = .tripped →
    (CoastOver (u.fanCfg f) (u.fan f) → exec (.coastConditionsMet f) u = .next t) ∧
    (¬ CoastOver (u.fanCfg f) (u.fan f) → t = u)
  driving : i = 7 ∨ i = 8 → (u.fan f).state ≠ .coasting → (u.fan f).state ≠ .tripped → t = u
  unsupervised : i = 9 → v = 0 → NoRequest u → (u.fan f).state = .running →
    t = u.withFan f { u.fan f with verifyTimer := some 0 }
  startOver : i = 9 ∨ i = 12 ∨ i = 13 → (u.fan f).state = .starting → f ∈ u.arbiter.holders →
    (u.fan f).reference = (u.fan f).target.speed * 10 → AtSpeed (u.fanCfg f) (u.fan f) →
    t.fan f = (u.fan f).afterStart ∧ Unserved t f ∧ FirstReport u t (fanUnit f) (.fanState .running .startDone)
  startGoesOn : i = 12 ∨ i = 13 ∨ (i = 9 ∧ (u.fan f).state = .starting) → NoRequest u →
    ¬ ((u.fan f).state = .starting ∧ f ∈ u.arbiter.holders ∧ (u.fan f).reference = (u.fan f).target.speed * 10 ∧
      AtSpeed (u.fanCfg f) (u.fan f)) → t = u
  untested : i = 9 → NoRequest u → (u.fan f).state ≠ .starting → (u.fan f).state ≠ .coasting →
    (u.fan f).state ≠ .tripped → ¬ ((u.fan f).state = .running ∧ v = 0) → t = u
  verify : i = 14 → exec (.verifyWindowExpiry f) u = .next t
  limit : i = 15 → exec (.startLimitExpiry f) (u.withFan f { u.fan f with limitUntested := false }) = .next t
  credits : i = 16 → t = u.withFan f { u.fan f with
    credits := min (u.fan f).credits v
    creditTimer := if v ≤ (u.fan f).credits then none else some ((u.fan f).creditTimer.getD 0) }
  interval : i = 17 →
    (∀ τ, (u.fan f).creditTimer = some τ → v * 60000 ≤ τ → exec (.creditRegeneration f) u = .next t) ∧
    ((∀ τ, (u.fan f).creditTimer = some τ → τ < v * 60000) → t = u)
  named : i = 20 ∨ i = 21 → (u.ctl.pressFan ≠ some f → t = u) ∧
    (u.ctl.pressFan = some f → OtherFans f u t ∧ (t.fan f).target = composedTarget t f ∧
      (i = 21 → v < relief → someDoorRelieving u = true → (t.fan f).reference ≤ v * 10))

/-- Door parameters (R99, R107, R109, R115). -/
structure DoorWrite (d : Fin 2) (i v : Nat) (u t : State) : Prop where
  frame : DoorFrame u t
  others : OtherDoors d u t
  kept : i < 2 ∨ 7 ≤ i → t = u
  rests : i = 2 ∨ i = 3 → (u.door d).travel = none → t = u
  goesOn : i = 2 ∨ i = 3 → ∀ r, (u.door d).travel = some r → GoesOn (u.doorCfg d) (u.door d) r → t = u
  reached : i = 2 ∨ i = 3 → ∀ r, (u.door d).travel = some r → TargetMet (u.doorCfg d) (u.door d) r →
    FirstReport u t (doorUnit d) (.doorDone r.dir .targetReached (u.door d).position r.forced) ∧
      Rests d (u.door d) (comesToRest (u.doorCfg d) (u.door d) r.dir) u t
  limit : i = 3 → ∀ r τ, (u.door d).travel = some r → (u.door d).travelTimer = some τ → v * 1000 ≤ τ →
    ((u.door d).state = .opening ∧ r.dir = .toOpen) ∨ ((u.door d).state = .closing ∧ r.dir = .toClose) →
    GoesOn (u.doorCfg d) { u.door d with travelTimer := none } r → exec (.travelTimeout d) u = .next t
  hold : i = 4 →
    (∀ τ, (u.door d).holdOpen = some τ → v * 1000 ≤ τ → exec (.holdOpenExpiry d) u = .next t) ∧
    ((∀ τ, (u.door d).holdOpen = some τ → τ < v * 1000) → t = u)
  reclose : i = 5 → t = u.withDoor d { u.door d with
    holdOpen := if (u.door d).state = .isOpen then holdFor (u.doorCfg d) (u.door d) (u.door d).escape else none }
  locks : i = 6 → v = 0 →
    ((u.door d).state = .closed ∧ (u.door d).unlockPolicy = false →
      (t.door d).state = .closedLocked ∧ (t.door d).position = (u.door d).position) ∧
    (¬ ((u.door d).state = .closed ∧ (u.door d).unlockPolicy = false) → t = u)
  unlocks : i = 6 → v = 1 →
    ((u.door d).state = .closedLocked → (t.door d).state = .closed ∧ (t.door d).position = (u.door d).position) ∧
    ((u.door d).state ≠ .closedLocked → t = u)

/-- What the write of value `v` to parameter `i` of a unit does at once; `old` holds the settings before it. -/
def WriteActs (unit : UnitName) (i v : Nat) (old : Settings) (u t : State) : Prop :=
  match unit with
  | .controller => ControllerWrite i v old.controller.pressFan u t
  | .channel c => ChannelWrite c i v u t
  | .fan f => FanWrite f i v old.fans[f].relief u t
  | .door d => DoorWrite d i v u t

/-! ### The idle step -/

/-- The row of an expiry that the idle step takes; the two ends of relief have none, since the idle step takes them at the step
of the relief timer itself. -/
def Expiry.row (s : State) : Expiry → Option Instr
  | .coast f => some (.coastConditionsMet f)
  | .startLimit f => some (.startLimitExpiry f)
  | .verify f => some (.verifyWindowExpiry f)
  | .credit f => some (.creditRegeneration f)
  | .tach f => some (.tachTimeout f)
  | .edge f => some (.acceptedEdge f (s.fan f).tach.pin 50)
  | .delay f => some (.startDelayExpiry f)
  | .settle d => some (.settleExpiry d)
  | .travelStep _ => none
  | .travel d => some (.travelTimeout d)
  | .hold d => some (.holdOpenExpiry d)
  | .reopen d => some (.reopenExpiry d)
  | .blind _ => none
  | .relief _ => none
  | .link => some .linkTimeout
  | .gap => some .rxGapTimeout
  | .stop => some .stopAsserted
  | .escape => some .escapeAsserted
  | .maint => some .maintAsserted

/-! ### Invariants -/

/-- The report queue holds at most 32 records, and the marker is clear while it is empty (R170, R171). -/
def QueueOk (s : State) : Prop :=
  s.reports.records.length ≤ 32 ∧ (s.reports.records = [] → s.reports.overflow = false)

/-- The window of a channel: W slots, the fill count at most W, the write index behind the newest value, the running
sum the sum of the values held, the average their rounded mean, and all of them in the range of the kind (R13, R14). -/
structure WindowOk (x : Channel) : Prop where
  slotted : x.slots.length = x.inForce.window
  filled : x.fill ≤ x.inForce.window
  index : x.writeIndex < x.inForce.window
  filling : x.fill < x.inForce.window → x.writeIndex = x.fill
  summed : x.sum = (x.slots.take x.fill).sum
  empty : x.fill = 0 → x.average = none
  mean : 0 < x.fill → x.average = some (meanOf x.sum x.fill)
  valuesInRange : ∀ v ∈ x.slots.take x.fill, kindLow x.inForce.kind ≤ v ∧ v ≤ kindHigh
  averageInRange : ∀ a, x.average = some a → kindLow x.inForce.kind ≤ a ∧ a ≤ kindHigh

/-- Every channel's window is in order. -/
def WindowsOk (s : State) : Prop := ∀ c, WindowOk (s.channel c)

/-- The demand stage is the greater of the floor and the highest level among contributing channels (R34). -/
def DemandOk (s : State) : Prop := s.demand.stage = demandStage s

/-- The settings keep their ranges: the working settings, the stored settings while their check value holds, the
snapshot; and a station is 1 to 32 (R155, R174). -/
structure SettingsOk (s : State) : Prop where
  working : s.store.working.inRange = true
  stored : s.store.storedValid = true → s.store.stored.inRange = true
  snapshot : ∀ p, s.store.snapshot = some p → p.inRange = true
  station : ∀ n, s.line.station = some n → 1 ≤ n ∧ n ≤ 32

/-- The arbiter leaves no request that it can serve: with a slot free nobody asks, and while urgency holds the pressurisation fan
does not wait and is not suspended (R81, R83, R84). -/
structure ServedOk (s : State) : Prop where
  slotsUsed : s.arbiter.holders.length < s.ctl.slotCount → NoRequest s
  urgentServed : s.arbiter.urgency = true → ∀ f, s.ctl.pressFan = some f →
    s.arbiter.waiting[f] = false ∧ f ∉ s.arbiter.suspended

/-- While STOP is asserted every fan has both direction outputs off and a reference of 0, and none waits for a grant
(R148). -/
def StopOk (s : State) : Prop :=
  s.stop.asserted = true →
    ∀ f, (s.fan f).forwardOn = false ∧ (s.fan f).reverseOn = false ∧ (s.fan f).reference = 0 ∧
      (s.fan f).state ≠ .awaitGrant

/-- Every fan's credits lie within its maximum (R88). -/
def CreditsOk (s : State) : Prop := ∀ f, (s.fan f).credits ≤ (s.fanCfg f).maxCredits

/-- In INCIDENT no fan with an entry in the engaged record is LOCKED_OUT (R59, R136). -/
def LockoutOk (s : State) : Prop :=
  s.modes.mode = .incident → ∀ f, (engagedEntry s f).isSome = true → (s.fan f).state ≠ .lockedOut

/-- The target of every fan is composed from its mode target and the doors, and the mode target is the one its mode
gives; a start delay runs in INCIDENT only (R43, R44, R46, R126, R137, R138). -/
structure TargetsOk (s : State) : Prop where
  composed : ∀ f, (s.fan f).target = composedTarget s f
  auto : s.modes.mode = .auto → ∀ f, (s.fan f).modeTarget = autoTarget s f
  manual : s.modes.mode = .manual → ∀ f t, (s.fan f).setpoint = some t → (s.fan f).modeTarget = t
  incident : s.modes.mode = .incident → ∀ f, (s.fan f).modeTarget = incidentTarget s f
  delays : s.modes.mode ≠ .incident → ∀ (f : Fin 4) ms, s.modes.delays[f] ≠ .running ms

/-- While any door is RELIEVING, the pressurisation fan's reference does not exceed ten times its relief speed (R127). -/
def CapOk (s : State) : Prop :=
  ∀ f, s.ctl.pressFan = some f → someDoorRelieving s = true → (s.fan f).reference ≤ (s.fanCfg f).relief * 10

/-- A travelling door has a current travel, a door at rest has none and an empty slot; the travel timer runs while a
motor output is on, and relief has its channel and its timer (R93, R97, R113, R120). -/
structure DoorOk (x : Door) : Prop where
  current : x.travel.isSome = travelling x.state
  slotEmpty : travelling x.state = false → x.slot = none
  timed : x.motorOpen = true ∨ x.motorClose = true → x.travelTimer.isSome = true
  relief : x.state = .relieving → x.reliefChannel.isSome = true ∧ x.reliefTimer.isSome = true

def DoorsOk (s : State) : Prop := ∀ d, DoorOk (s.door d)

/-- The record in a door's slot is one that DOOR_TRAVEL or a service button asked for: an escape, reclose, reverse or homing
travel is never placed there (R101, R102, R110, R112). -/
def SlotAsked (x : Door) : Prop := ∀ n, x.slot = some n → n.reason = .supervisory ∨ n.reason = .service

def SlotsAsked (s : State) : Prop := ∀ d, SlotAsked (s.door d)

end Sys2Proof.Machine
end

