-- ==== Sys2Proof/Certificates/Slice0/Obligations.lean ====
section
/-! DEFINITION. The statements for the provers: what the commands do, by the numbered rules of spec/, and the invariants that
every step keeps. -/

open Sys2Proof Sys2Proof.Machine

/-! ### The queue and the idle step -/

/-- A step takes the command at the front of the queue and runs it with the queue's rest. -/
def Obligations.StepRunsTheFrontCommand : Prop :=
  ∀ (c : Instr) (rest : List Instr) (s : State), step (s.withPending (c :: rest)) = exec c (s.withPending rest)

/-- An empty queue lets 1 ms pass (R169; the idle step is the model's choice, log entry 1). Where no timer reaches its limit
and no tach pin stands off its accepted level, the next state is this one: the time base one further, every running timer 1 ms
further, 50 samples taken by each tach input, and nothing else. The expiries that have come due are taken one after another in
some order; one that is due alone does what the command of its row does, and the two ends of relief are taken at the step of
the relief timer itself. A step of 100 ms of the travel timer makes the tests of R99 too, and ends a travel that has its target
behind it, such as one raised to an escape travel after the open position was lowered; a travel that goes on is left alone by
it, and so is every travel between two steps (R54, R66, R89, R96, R97, R99, R107, R122, R123, R145, R147, R157). The rows act
whatever their timers stand at: log entry 2; the expiries of the start limit and the verify window: 3; the free order: 5; the
50 tach samples: 15; a safety edge that has stayed asserted, which a step leaves untested: 18; the step of the relief timer,
BLIND before TIMEOUT: 23; the gap at 5 ms: 26; the standstill time at 0 rpm whatever the pulses per rev: 43; the limit and
another condition at the same step: 45; the average in a TIMEOUT report: 47. -/
def Obligations.IdleStepPassesOneMillisecond : Prop :=
  (∀ s : State, s.pending = [] → ∃ t, step s = .next t ∧
     t.reports.timeBase = s.reports.timeBase + 1 ∧
     t.line = { s.line with receiver := t.line.receiver, rxGap := t.line.rxGap } ∧ t.store = s.store ∧
     t.channels = s.channels ∧ t.demand = s.demand ∧ t.pending = [] ∧
     (∃ order : List Expiry, order.Perm (allExpiries.filter fun e => Expiry.due (advanceTimers s) e) ∧
       t = takeEach order Expiry.take (advanceTimers s).nextChoice) ∧
     ((∀ e, Expiry.due (advanceTimers s) e = false) →
       t = { s with
         fans := t.fans
         doors := t.doors
         modes := { s.modes with delays := t.modes.delays, linkTimer := s.modes.linkTimer.map (· + 1) }
         stop := { s.stop with settle := s.stop.settle.map (· + 1) }
         escape := { s.escape with settle := s.escape.settle.map (· + 1) }
         maint := { s.maint with settle := s.maint.settle.map (· + 1) }
         line := { s.line with rxGap := s.line.rxGap.map (· + 1) }
         reports := { s.reports with timeBase := s.reports.timeBase + 1 }
         choice := s.choice + 1 } ∧
       (∀ f : Fin 4, t.modes.delays[f] = match s.modes.delays[f] with
         | .running ms => .running (ms + 1)
         | .absent => .absent
         | .expired => .expired) ∧
       (∀ f, let x := s.fan f
         t.fan f = { x with
           tach := { x.tach with disagreement := 0, timeout := x.tach.timeout.map (· + 1000)
                                 periodAge := x.tach.periodAge.map (· + 1000) }
           creditTimer := x.creditTimer.map (· + 1)
           offTime := if drives x.state then x.offTime else min 600000 (x.offTime + 1)
           standstill := if drives x.state = true ∨ x.tach.rpm ≠ 0 then x.standstill else min 5000 (x.standstill + 1) }) ∧
       ∀ d, let x := s.door d
         let runs := x.state = .isOpen ∧ (s.doorCfg d).autoReclose = true ∧ x.escape.escapeLine = false ∧
           x.escape.scenario = false ∧ x.recloseSuspended = false ∧ x.inputs.presence = false
         t.door d = { x with
           settle := x.settle.map (· + 1)
           travelTimer := x.travelTimer.map (· + 1)
           holdOpen := if runs then x.holdOpen.map (· + 1) else x.holdOpen
           reopen := x.reopen.map (· + 1)
           reliefTimer := x.reliefTimer.map (· + 1) })) ∧
  (∀ (s : State) (e : Expiry), s.pending = [] → (∀ e', Expiry.due (advanceTimers s) e' = decide (e' = e)) →
    (let later := (advanceTimers s).nextChoice
     (∀ i, e.row later = some i → step s = exec i later) ∧
     ∀ d τ r, let x := later.door d
       let cfg := s.doorCfg d
       x.reliefTimer = some τ → x.travel = some r → r.dir = .toOpen → ClearToOpen cfg x r →
       (e = .relief d → ∃ t, step s = .next t ∧ DoorFrame later t ∧ OtherDoors d later t ∧
         FirstReport later t (doorUnit d) (.relief .timeout (τ / 100) x.lastObserved) ∧
         MovesOn cfg x (t.door d) { r with forced := true }) ∧
       (e = .blind d → ∃ t, step s = .next t ∧ DoorFrame later t ∧ OtherDoors d later t ∧
         FirstReport later t (doorUnit d) (.relief .blind (τ / 100) none) ∧ MovesOn cfg x (t.door d) r)) ∧
    (∀ d r, let later := (advanceTimers s).nextChoice
      let x := later.door d
      e = .travelStep d → x.travel = some r → TargetMet (later.doorCfg d) x r → ∃ t, step s = .next t ∧
        DoorFrame later t ∧ OtherDoors d later t ∧
        FirstReport later t (doorUnit d) (.doorDone r.dir .targetReached x.position r.forced) ∧
        (t.door d).position = x.position ∧ Rests d x (comesToRest (later.doorCfg d) x r.dir) later t)) ∧
  ∀ (s : State) (d : Fin 2) (r : Travel),
    let x := (advanceTimers s).door d
    let due := Expiry.due (advanceTimers s) (.travelStep d)
    x.travel = some r →
    (∀ τ, x.travelTimer = some τ → τ % 100 = 0 → TargetMet (s.doorCfg d) x r → due = true) ∧
    (GoesOn (s.doorCfg d) x r → due = false) ∧
    (∀ τ, x.travelTimer = some τ → τ % 100 ≠ 0 → due = false)

/-! ### Resets -/

/-- A power-on reset reads the straps, the bit rate among them, loads the stored settings where their check value holds and the
factory defaults where it does not, clears the lock level and empties the queue but for POWER_UP COLD (R155, R172, R178). -/
def Obligations.PowerOnResetLoadsTheStore : Prop :=
  ∀ (s : State) (straps : Straps) (pins : Pins), ∃ t, exec (.powerOnReset straps pins) s = .next t ∧
    t.store.working = (if t.store.checkError = 0 then t.store.stored else .factory) ∧
    t.store.lockLevel = 0 ∧ t.store.snapshot = none ∧
    (s.store.snapshot = none → t.store.stored = s.store.stored ∧ t.store.checkError = s.store.checkError) ∧
    t.reports = { records := [{ stamp := 0, unit := 0, data := .powerUp false (t.store.checkError == 0) }],
                  overflow := false, timeBase := 0 } ∧
    t.line.bitRate = (match straps.bitRate with
      | 0 => .b9600
      | 1 => .b19200
      | 2 => .b38400
      | 3 => .b115200) ∧ t.line.strap = straps.station.val ∧ t.line.serial = s.line.serial ∧
    t.line.enumState = .idle ∧ t.line.receiver = .hunt ∧ t.line.rxGap = none ∧ t.line.reply = none ∧
    t.line.transmitting = false ∧ t.line.resetRequested = false ∧
    (straps.station ≠ 0 → t.line.station = some straps.station.val ∧ t.line.source = .strapped) ∧
    (straps.station = 0 → t.ctl.enumStation ≠ 0 →
      t.line.station = some t.ctl.enumStation ∧ t.line.source = .enumerated) ∧
    (straps.station = 0 → t.ctl.enumStation = 0 → t.line.station = none ∧ t.line.source = .unassigned) ∧
    t.pending = s.pending

/-- The fans, their tach inputs and the feed arbiter, the channels, the demand unit, the doors, the mode controller and the
hardwired lines after a power-on reset (R22, R39, R64, R78, R92, R117, R146, R147). -/
def Obligations.PowerOnResetStartsEveryBlock : Prop :=
  (∀ (s : State) (straps : Straps) (pins : Pins), ∃ t, exec (.powerOnReset straps pins) s = .next t ∧
     t.arbiter = { holders := [], waiting := Vector.replicate 4 false, suspended := [], rotation := none,
                   urgency := false } ∧
     ∀ f, t.fan f =
       let p := t.fanCfg f
       let target : Target := { dir := p.defaultDir, speed := if t.ctl.pressFan = some f then p.standby else p.speed0 }
       { state := if p.active then .coasting else .inactive
         latched := p.defaultDir, target := target, modeTarget := target, setpoint := none, reference := 0, offTime := 0,
         standstill := 0, startTimer := none, limitUntested := false, verifyTimer := none, stallNoted := false,
         credits := p.maxCredits,
         creditTimer := none, tripCount := 0, lastTrip := .noTrip, lockoutMemory := false, creditWait := false,
         suspended := false, held := false, faultInput := pins.fault[f]
         tach := { prescale := p.prescale, filterN := p.filterN, pulses := p.pulsesPerRev, pin := pins.tach[f], level := false,
                   disagreement := 0, prescaleCount := 0, periodAge := none, lastPeriod := none, rpm := 0,
                   timeout := none } }) ∧
  ∀ (s : State) (straps : Straps) (pins : Pins), ∃ t, exec (.powerOnReset straps pins) s = .next t ∧
    t.demand = { stage := 0, floor := 0 } ∧
    (∀ c, let p := t.channelCfg c
      let x := t.channel c
      x.state = (if p.active then .warming else .inactive) ∧
        x.inForce = { kind := p.kind, zero := p.zero, span := p.span, window := p.window } ∧ x.fill = 0 ∧ x.sum = 0 ∧
        x.writeIndex = 0 ∧ x.average = none ∧ x.rawCode = 0 ∧ x.calibrated = 0 ∧ x.limited = false ∧ x.faultRun = 0 ∧
        x.level = 0 ∧ x.upCount = 0 ∧ x.downCount = 0) ∧
    (∀ d, let p := t.doorCfg d
      let x := t.door d
      x.state = (if p.active = false then .inactive else if pins.doors[d].closedStop = false then .unhomed
        else if p.lockPolicy = .lockedWhenClosed then .closedLocked else .closed) ∧
        x.position = 0 ∧ x.homed = pins.doors[d].closedStop ∧ x.inputs = pins.doors[d] ∧ x.travel = none ∧
        x.slot = none ∧ x.escape = .empty ∧ x.settle = none ∧ x.travelTimer = none ∧ x.holdOpen = none ∧
        x.reopen = none ∧ x.reliefTimer = none ∧ x.retry = p.retries ∧ x.recloseSuspended = false ∧
        x.unlockPolicy = false ∧ x.creep = false) ∧
    t.modes = { mode := .auto, engaged := 0, record := none, delays := Vector.replicate 4 .absent, frozen := none,
                armed := none, lineLost := false, linkTimer := some 0 } ∧
    t.stop = { asserted := false, settle := if pins.stop then some 0 else none } ∧
    t.escape = { asserted := false, settle := if pins.escape then some 0 else none } ∧
    t.maint = { asserted := false, settle := if pins.maint then some 0 else none }

/-- A warm reset keeps the straps, the station and the lock level, reloads the settings and writes the station in use into
them, and queues POWER_UP WARM (R155, R172, R179); a WARM_RESET with none due changes nothing (log entry 17). -/
def Obligations.WarmResetReloadsAndKeeps : Prop :=
  ∀ (s : State) (pins : Pins),
    (s.line.resetRequested = false → exec (.warmReset pins) s = .next s) ∧
    (s.line.resetRequested = true → ∃ t, exec (.warmReset pins) s = .next t ∧
      (s.store.snapshot = none → t.store.stored = s.store.stored ∧ t.store.checkError = s.store.checkError) ∧
      t.store.lockLevel = s.store.lockLevel ∧ t.store.snapshot = none ∧
      (let p : Settings := if t.store.checkError = 0 then t.store.stored else .factory
       t.store.working = { p with controller := { p.controller with enumStation :=
         match s.line.source with
         | .strapped => p.controller.enumStation
         | .enumerated => s.line.station.getD 0
         | .unassigned => 0 } }) ∧
      t.line = { s.line with enumState := .idle, receiver := .hunt, rxGap := none, reply := none, transmitting := false,
                             resetRequested := false } ∧
      t.reports = { records := [{ stamp := 0, unit := 0, data := .powerUp true (t.store.checkError == 0) }],
                    overflow := false, timeBase := 0 } ∧
      t.demand = { stage := 0, floor := 0 } ∧ t.modes.mode = .auto ∧ t.modes.armed = none ∧ t.pending = s.pending)

/-- What a warm reset does to the fans with their tach inputs, to the doors and to the other blocks: credits under the reloaded
maximum and interval, trips, lockout memory, position and homed flag are kept, each door is judged by where it stands, every
input takes the level of its pin, and everything else is as at power-on (R23, R39, R42, R65, R78, R92, R95, R118, R129, R146,
R147; a window slot reads 0: log entry 12; a credit timer that stops where the reloaded maximum equals the count, and the
interval compared once after it, are the model's reading of R92: log entry 38). -/
def Obligations.WarmResetKeepsCreditsAndJudgesDoors : Prop :=
  (∀ (s : State) (pins : Pins), s.line.resetRequested = true → ∃ t, exec (.warmReset pins) s = .next t ∧
     t.arbiter = { holders := [], waiting := Vector.replicate 4 false, suspended := [], rotation := none,
                   urgency := false } ∧
     ∀ f, let x := s.fan f
       let p := t.fanCfg f
       let timer := if p.maxCredits ≤ x.credits then none else some (x.creditTimer.getD 0)
       let due := timer.any fun ms => p.creditInterval * 60000 ≤ ms
       t.fan f = {
         state := if p.active = false then .inactive else if x.lockoutMemory then .lockedOut else .coasting
         latched := p.defaultDir
         target := composedTarget t f
         modeTarget := { dir := p.defaultDir, speed := if t.ctl.pressFan = some f then p.standby else p.speed0 }
         setpoint := none, reference := 0, offTime := 0, standstill := 0, startTimer := none, limitUntested := false
         verifyTimer := none
         stallNoted := false
         credits := if due then min p.maxCredits (x.credits + 1) else min x.credits p.maxCredits
         creditTimer := if due then (if x.credits + 1 < p.maxCredits then some 0 else none) else timer
         tripCount := x.tripCount, lastTrip := x.lastTrip, lockoutMemory := x.lockoutMemory, creditWait := false
         suspended := false, held := false, faultInput := pins.fault[f]
         tach := { prescale := p.prescale, filterN := p.filterN, pulses := p.pulsesPerRev, pin := pins.tach[f]
                   level := false, disagreement := 0, prescaleCount := 0, periodAge := none, lastPeriod := none, rpm := 0
                   timeout := none } }) ∧
  (∀ (s : State) (pins : Pins), s.line.resetRequested = true → ∃ t, exec (.warmReset pins) s = .next t ∧
     ∀ d, let x := s.door d
       let p := t.doorCfg d
       let z : Door := { x with inputs := pins.doors[d] }
       let judged : DoorState := if p.active = false then .inactive
         else if x.homed = false then .unhomed
         else if travelling x.state then .halted
         else if z.atZero p then (if p.lockPolicy = .lockedWhenClosed then .closedLocked else .closed)
         else if z.atOpen p then .isOpen
         else .halted
       t.door d = {
         state := judged, position := x.position, homed := x.homed, travel := none, slot := none, escape := .empty
         settle := none, travelTimer := none, reopen := none, retry := p.retries, recloseSuspended := false
         holdOpen := if judged = .isOpen ∧ p.autoReclose = true then some 0 else none
         unlockPolicy := false, creep := false, reliefTimer := none, reliefChannel := none, lastObserved := none
         observedUsable := false, inputs := pins.doors[d] }) ∧
  ∀ (s : State) (pins : Pins), s.line.resetRequested = true → ∃ t, exec (.warmReset pins) s = .next t ∧
    t.demand = { stage := 0, floor := 0 } ∧
    (∀ c, let p := t.channelCfg c
      t.channel c = {
        state := if p.active then .warming else .inactive
        inForce := { kind := p.kind, zero := p.zero, span := p.span, window := p.window }
        rawCode := 0, calibrated := 0, slots := List.replicate p.window 0, writeIndex := 0, fill := 0, sum := 0
        average := none, limited := false, faultRun := 0, level := 0, upCount := 0, downCount := 0 }) ∧
    t.modes = { mode := .auto, engaged := 0, record := none, delays := Vector.replicate 4 .absent, frozen := none,
                armed := none, lineLost := false, linkTimer := some 0 } ∧
    t.stop = { asserted := false, settle := if pins.stop then some 0 else none } ∧
    t.escape = { asserted := false, settle := if pins.escape then some 0 else none } ∧
    t.maint = { asserted := false, settle := if pins.maint then some 0 else none }

/-! ### Measurement channels and alarm levels -/

/-- A channel in INACTIVE does nothing at its sample instant. A faulted sample counts; the count that reaches the fault
persistence brings FAULT, its report and the substitute level; in FAULT it counts and does nothing more. One that finds the
configuration changed takes the new one into force and empties the window first. A level that the substitute changes is reported
behind CHANNEL_FAULT, and the demand stage behind that (R2, R5, R6, R7, R16, R17, R28, R29, R35; an emptied slot reads 0: log
entry 12; DEMAND before the reports of the fans: log entry 42). -/
def Obligations.SampleWithoutAValue : Prop :=
  (∀ (s : State) (c : Fin 8) (current : Nat), (s.channel c).state = .inactive →
     (∃ t, exec (.sampleInstant c current) s = .next t ∧ t.channels = s.channels ∧ t.demand = s.demand ∧
       SampleFrame s t) ∧
     ((∀ d, (s.door d).state = .relieving → (s.door d).reliefChannel ≠ some c) →
       exec (.sampleInstant c current) s = .next { s with choice := s.choice + 1 })) ∧
  (∀ (s : State) (c : Fin 8) (current : Nat),
     let x := s.channel c
     let p := s.channelCfg c
     let r := min 4000 (160 * current / 1000)
     let run := min 255 (x.faultRun + 1)
     let cause := if r < 576 then LoopCause.loopLow else LoopCause.loopHigh
     x.state ≠ .inactive → x.inForce = configOf p → (r < 576 ∨ 3360 < r) →
     ∃ t, exec (.sampleInstant c current) s = .next t ∧ SampleFrame s t ∧ OtherChannels c s t ∧
       ((x.state = .fault ∨ run < p.faultPersistence) →
         t.channel c = { x with rawCode := r, faultRun := run } ∧ t.demand = s.demand) ∧
       (x.state ≠ .fault → p.faultPersistence ≤ run →
         t.channel c = { x with rawCode := r, faultRun := run, state := .fault, level := p.substitute, upCount := 0,
                                downCount := 0 } ∧
         FirstReport s t (channelUnit c) (.channelFault cause) ∧
         LevelHanded c (s.reports.arrive (channelUnit c) (.channelFault cause)) s t)) ∧
  ∀ (s : State) (c : Fin 8) (current : Nat),
    let x := s.channel c
    let p := s.channelCfg c
    let r := min 4000 (160 * current / 1000)
    let run := min 255 (x.faultRun + 1)
    let cause := if r < 576 then LoopCause.loopLow else LoopCause.loopHigh
    let z : Channel := { x with
      inForce := { kind := p.kind, zero := p.zero, span := p.span, window := p.window }
      slots := List.replicate p.window 0, writeIndex := 0, fill := 0, sum := 0, average := none, rawCode := r
      faultRun := run }
    x.state ≠ .inactive → x.inForce ≠ configOf p → (r < 576 ∨ 3360 < r) →
    ∃ t, exec (.sampleInstant c current) s = .next t ∧ SampleFrame s t ∧ OtherChannels c s t ∧
      (x.state = .fault → t.channel c = z ∧ t.demand = s.demand) ∧
      (x.state ≠ .fault → run < p.faultPersistence → t.channel c = { z with state := .warming } ∧ t.demand = s.demand) ∧
      (x.state ≠ .fault → p.faultPersistence ≤ run →
        t.channel c = { z with state := .fault, level := p.substitute, upCount := 0, downCount := 0 } ∧
        FirstReport s t (channelUnit c) (.channelFault cause) ∧
        LevelHanded c (s.reports.arrive (channelUnit c) (.channelFault cause)) s t)

/-- A valid sample of a WARMING or VALID channel with its configuration in force is calibrated as R10 says, clamped to its
kind's range, entered in the window and averaged. -/
def Obligations.ValidSampleEntersTheWindow : Prop :=
  ∀ (s : State) (c : Fin 8) (current : Nat),
    let x := s.channel c
    let r := min 4000 (160 * current / 1000)
    let w := x.inForce.window
    let raw := (((r : Int) - x.inForce.zero) * x.inForce.span + 2048) / 4096
    let v := max (kindLow x.inForce.kind) (min raw 32767)
    let n := if x.fill < w then x.fill + 1 else x.fill
    let sum := x.sum - (if x.fill = w then x.slots.getD x.writeIndex 0 else 0) + v
    (x.state = .warming ∨ x.state = .valid) → x.inForce = configOf (s.channelCfg c) → 576 ≤ r → r ≤ 3360 →
    ∃ t, exec (.sampleInstant c current) s = .next t ∧
      (let y := t.channel c
       y.rawCode = r ∧ y.calibrated = v ∧ y.faultRun = 0 ∧ y.inForce = x.inForce ∧
         y.slots = x.slots.set x.writeIndex v ∧ y.writeIndex = (x.writeIndex + 1) % w ∧ y.fill = n ∧ y.sum = sum ∧
         y.average = some ((sum + (n / 2 : Nat)) / (n : Int)) ∧
         y.state = (if n < w then .warming else .valid) ∧
         y.limited = (x.limited || decide (32767 < raw) || (!isGas x.inForce.kind && decide (raw < -32768)))) ∧
      SampleFrame s t ∧ OtherChannels c s t

/-- A valid sample that finds the channel in FAULT or its configuration changed empties the window first: the instant ends with
one value, LIMITED set by its clamp and else left as it was, and a channel in FAULT reports its recovery (R9, R11, R16, R17; an
empty slot reads 0: log entry 12). -/
def Obligations.ValidSampleStartsTheWindowAfresh : Prop :=
  ∀ (s : State) (c : Fin 8) (current : Nat),
    let x := s.channel c
    let r := min 4000 (160 * current / 1000)
    let cfg := configOf (s.channelCfg c)
    let raw := (((r : Int) - cfg.zero) * cfg.span + 2048) / 4096
    let v := max (kindLow cfg.kind) (min raw 32767)
    x.state ≠ .inactive → (x.state = .fault ∨ x.inForce ≠ cfg) → 1 ≤ cfg.window → 576 ≤ r → r ≤ 3360 →
    ∃ t, exec (.sampleInstant c current) s = .next t ∧
      (let y := t.channel c
       y.inForce = cfg ∧ y.rawCode = r ∧ y.calibrated = v ∧ y.faultRun = 0 ∧
         y.slots = (List.replicate cfg.window 0).set 0 v ∧ y.fill = 1 ∧ y.sum = v ∧ y.average = some v ∧
         y.state = (if 1 < cfg.window then .warming else .valid) ∧
         y.limited = (x.limited || decide (32767 < raw) || (!isGas cfg.kind && decide (raw < -32768)))) ∧
      (x.state = .fault → FirstReport s t (channelUnit c) .channelRecovered) ∧ SampleFrame s t ∧ OtherChannels c s t

/-- Every valid sample of an active channel evaluates its level against the new average: the rising test of R25, the falling
test, the two persistences, and the report of a change, behind which a contributing channel's change of the demand stage is
reported (R25 to R28, R31, R34, R35; DEMAND before the reports of the fans: log entry 42). -/
def Obligations.LevelFollowsTheAverage : Prop :=
  ∀ (s : State) (c : Fin 8) (current : Nat),
    let x := s.channel c
    let p := s.channelCfg c
    let r := min 4000 (160 * current / 1000)
    let bound : Nat → Int := fun n => if n = 1 then p.t1 else if n = 2 then p.t2 else p.t3
    x.state ≠ .inactive → 576 ≤ r → r ≤ 3360 →
    ∃ t a, exec (.sampleInstant c current) s = .next t ∧ (t.channel c).average = some a ∧
      (let y := t.channel c
       let up := if x.level < 3 ∧ bound (x.level + 1) ≤ a then x.upCount + 1 else 0
       let down := if 0 < x.level ∧ a < bound x.level - p.hysteresis then x.downCount + 1 else 0
       let before := if x.state = .fault then s.reports.arrive (channelUnit c) .channelRecovered else s.reports
       (p.upPersistence ≤ up → y.level = x.level + 1 ∧ y.upCount = 0 ∧ y.downCount = 0) ∧
       (up < p.upPersistence → p.downPersistence ≤ down → y.level = x.level - 1 ∧ y.upCount = 0 ∧ y.downCount = 0) ∧
       (up < p.upPersistence → down < p.downPersistence → y.level = x.level ∧ y.upCount = up ∧ y.downCount = down) ∧
       LevelHanded c before s t)

/-- DEMAND_FLOOR takes the floor, clamped to 3, and recomputes the stage; the reply carries both (R34, R37; the DEMAND report
before those of the fans: log entry 42). -/
def Obligations.DemandFloorSetsTheStage : Prop :=
  ∀ (s : State) (dest n : Byte), Ready s dest →
    ∃ t, exec (.demandFloor dest [n]) s = .next (answered 0x34 dest .ok [byteOf t.demand.floor, byteOf t.demand.stage] t) ∧
      t.demand.floor = min n.toNat 3 ∧
      t.demand.stage = allChannels.foldl (fun m c =>
        if (s.channel c).state ≠ .inactive ∧ (s.channelCfg c).contributes = true then max m (s.channel c).level else m)
        (min n.toNat 3) ∧
      FanFrame ((dispatching s).withDemand t.demand) t ∧
      (t.demand.stage = s.demand.stage → t.fans = s.fans ∧ t.arbiter = s.arbiter ∧ t.reports = s.reports) ∧
      (t.demand.stage ≠ s.demand.stage → FirstReport s t 0 (.demand t.demand.stage t.demand.floor)) ∧
      (s.modes.mode ≠ .auto → t.fans = s.fans ∧ t.arbiter = s.arbiter)

/-! ### Fans -/

/-- A ramp instant that ends no start and no stop moves the reference one step toward its aim, advances the start-phase timer of
a starting holder and the verify timer of a running fan, and does nothing in the other states (R52, R73, R75, R76, R77,
R85). The verify window and the start limit are tested by their own expiries, even where the instant reaches them (log
entry 3). -/
def Obligations.RampInstantMovesTheReference : Prop :=
  ∀ (s : State) (f : Fin 4),
    let x := s.fan f
    let p := s.fanCfg f
    let toward := fun aim => if x.reference < aim then min (x.reference + p.rampUp) aim
      else if aim < x.reference then max (x.reference - p.rampDown) aim else x.reference
    let next := toward (x.target.speed * 10)
    let fast := p.pulsesPerRev = 0 ∨ p.ratedRpm * next / 10000 * (100 - p.tolerance) / 100 ≤ x.tach.rpm
    (x.state = .running → fast →
      exec (.rampInstant f) s = .next (s.withFan f { x with reference := next, verifyTimer := some 0 })) ∧
    (x.state = .running → ¬ fast →
      exec (.rampInstant f) s = .next (s.withFan f { x with
        reference := next
        verifyTimer := x.verifyTimer.map fun t => if p.verifyWindow * 1000 ≤ t then t else t + 100 })) ∧
    (x.state = .starting → f ∈ s.arbiter.holders → ¬ (next = x.target.speed * 10 ∧ fast) →
      exec (.rampInstant f) s = .next (s.withFan f { x with
        reference := next, startTimer := x.startTimer.map (· + 100), limitUntested := false })) ∧
    (x.state = .starting → f ∉ s.arbiter.holders → exec (.rampInstant f) s = .next s) ∧
    (x.state = .stopping → toward 0 ≠ 0 →
      exec (.rampInstant f) s = .next (s.withFan f { x with reference := toward 0 })) ∧
    (drives x.state = false → exec (.rampInstant f) s = .next s)

/-- A ramp instant that brings a starting holder to its target at speed ends the start phase: the grant released, RUNNING,
START_DONE; where the start limit is reached at the same instant, either is taken first. The one at which a STOPPING fan's
reference reaches 0 switches its output off: COASTING, off time and standstill time from 0 (R53, R60, R73, R74; a STOPPING fan whose
reference the cap of R127 has set to 0 coasts at its next ramp instant: log entry 25). -/
def Obligations.RampInstantEndsAPhase : Prop :=
  (∀ (s : State) (f : Fin 4),
     let x := s.fan f
     let p := s.fanCfg f
     let aim := x.target.speed * 10
     let limit := x.startTimer.any fun t => p.startLimit * 1000 ≤ t + 100
     x.state = .starting → f ∈ s.arbiter.holders →
     (x.reference < aim → aim ≤ x.reference + p.rampUp) → (aim < x.reference → x.reference - p.rampDown ≤ aim) →
     (p.pulsesPerRev = 0 ∨ p.ratedRpm * aim / 10000 * (100 - p.tolerance) / 100 ≤ x.tach.rpm) →
     ∃ t, exec (.rampInstant f) s = .next t ∧ FanFrame s t ∧ OtherFans f s t ∧ Unserved t f ∧
       (limit = false →
         t.fan f = { x with state := .running, reference := aim, startTimer := none, verifyTimer := some 0,
                            stallNoted := false, creditWait := false, suspended := false } ∧
         FirstReport s t (fanUnit f) (.fanState .running .startDone)) ∧
       (limit = true → (t.fan f).state = .running ∨ ((t.fan f).state = .tripped ∧ s.modes.mode ≠ .incident))) ∧
  ∀ (s : State) (f : Fin 4),
    let x := s.fan f
    x.state = .stopping → x.reference ≤ (s.fanCfg f).rampDown →
    ∃ t, exec (.rampInstant f) s = .next t ∧ FanFrame s t ∧ OtherFans f s t ∧ Unserved t f ∧ t.fan f = x.afterCut ∧
      FirstReport s t (fanUnit f) (.fanState .coasting .target)

/-- The start limit trips a starting holder outside INCIDENT and lets it run in INCIDENT; it does nothing where the limit has
not been reached under a grant, or where the fan has been re-granted with no advance of its timer and no write of its limit since
(R57, R74, R85; log entry 3). -/
def Obligations.StartLimitTripsOrRuns : Prop :=
  ∀ (s : State) (f : Fin 4),
    let x := s.fan f
    let reached := x.state = .starting ∧ f ∈ s.arbiter.holders ∧ x.limitUntested = false ∧
      ∃ t, x.startTimer = some t ∧ (s.fanCfg f).startLimit * 1000 ≤ t
    (¬ reached → exec (.startLimitExpiry f) s = .next s) ∧
    (reached → ∃ t, exec (.startLimitExpiry f) s = .next t ∧ FanFrame s t ∧ OtherFans f s t ∧ Unserved t f ∧
      (s.modes.mode ≠ .incident → t.fan f = x.afterTrip .startTimeout ∧
        FirstReport s t (fanUnit f) (.fanState .tripped .startTimeout)) ∧
      (s.modes.mode = .incident →
        t.fan f = { x with state := .running, startTimer := none, verifyTimer := some 0, stallNoted := true,
                           creditWait := false, suspended := false } ∧
        FirstReport s t (fanUnit f) (.fanState .running .stallIgnored)))

/-- The verify window trips a running fan STALL outside INCIDENT; in INCIDENT the first one in a RUNNING period is reported and
the fan runs on (R57, R76, R77; log entry 3). -/
def Obligations.VerifyWindowTripsOrReports : Prop :=
  ∀ (s : State) (f : Fin 4),
    let x := s.fan f
    let reached := x.state = .running ∧ (s.fanCfg f).pulsesPerRev ≠ 0 ∧
      ∃ t, x.verifyTimer = some t ∧ (s.fanCfg f).verifyWindow * 1000 ≤ t
    (¬ reached → exec (.verifyWindowExpiry f) s = .next s) ∧
    (reached → s.modes.mode ≠ .incident → ∃ t, exec (.verifyWindowExpiry f) s = .next t ∧ FanFrame s t ∧
      OtherFans f s t ∧ Unserved t f ∧ t.fan f = x.afterTrip .stall ∧
      FirstReport s t (fanUnit f) (.fanState .tripped .stall)) ∧
    (reached → s.modes.mode = .incident → x.stallNoted = true → exec (.verifyWindowExpiry f) s = .next s) ∧
    (reached → s.modes.mode = .incident → x.stallNoted = false →
      exec (.verifyWindowExpiry f) s =
        .next (report (fanUnit f) (.fanState .running .stallIgnored) (s.withFan f { x with stallNoted := true })))

/-- An asserted FAULT input trips a fan in STARTING, RUNNING, STOPPING or AWAIT_GRANT, and is only recorded in the other states;
so is a cleared one, but for a TRIPPED fan whose coast conditions are met (R42, R54, R57, R58). -/
def Obligations.FaultInputTrips : Prop :=
  ∀ (s : State) (f : Fin 4),
    let x := s.fan f
    let p := s.fanCfg f
    let trips := x.state = .starting ∨ x.state = .running ∨ x.state = .stopping ∨ x.state = .awaitGrant
    let met := p.minDwell * 1000 ≤ x.offTime ∧
      ((p.pulsesPerRev ≠ 0 ∧ 5000 ≤ x.standstill) ∨ p.coastLimit * 1000 ≤ x.offTime)
    (trips → ∃ t, exec (.faultInputChange f true) s = .next t ∧ FanFrame s t ∧ OtherFans f s t ∧ Unserved t f ∧
      t.fan f = { x.afterTrip .driveFault with faultInput := true } ∧
      FirstReport s t (fanUnit f) (.fanState .tripped .driveFault)) ∧
    (¬ trips → exec (.faultInputChange f true) s = .next (s.withFan f { x with faultInput := true })) ∧
    (x.state ≠ .tripped ∨ ¬ met →
      exec (.faultInputChange f false) s = .next (s.withFan f { x with faultInput := false }))

/-- A COASTING fan whose coast conditions are met takes its target: OFF without a wish or without permission, else AWAIT_GRANT
in the target's direction, under CREDIT_WAIT or on the waiting list, and STARTING where a slot is free and nobody else asks; an
asserted FAULT input trips it there, with the one report of the state the event ends in. In states other than COASTING and
TRIPPED nothing happens (R42, R48, R54, R80, R81; the command is the moment at which the conditions are met, whatever the timers
stand at: log entries 2 and 22; the single report of a trip at the entry: log entry 29). -/
def Obligations.CoastingEndsInTheTarget : Prop :=
  ∀ (s : State) (f : Fin 4),
    let x := s.fan f
    let wish := x.target.speed ≠ 0 ∧ s.stop.asserted = false ∧ x.held = false
    let free := s.modes.mode = .incident ∨ x.credits ≠ 0
    (x.state ≠ .coasting → x.state ≠ .tripped → exec (.coastConditionsMet f) s = .next s) ∧
    (x.state = .coasting → (s.fanCfg f).inRange = true → Unserved s f →
      ∃ t, exec (.coastConditionsMet f) s = .next t ∧ FanFrame s t ∧ OtherFans f s t ∧
        (t.fan f).target = x.target ∧ (t.fan f).reference = 0 ∧
        (¬ wish → (t.fan f).state = .off ∧ (t.fan f).credits = x.credits ∧
          FirstReport s t (fanUnit f) (.fanState .off .target)) ∧
        (wish → x.faultInput = true → (t.fan f).state = .tripped ∧ (t.fan f).lastTrip = .driveFault ∧
          FirstReport s t (fanUnit f) (.fanState .tripped .driveFault)) ∧
        (wish → x.faultInput = false → (t.fan f).latched = x.target.dir ∧
          FirstReport s t (fanUnit f) (.fanState .awaitGrant .target)) ∧
        (wish → x.faultInput = false → ¬ free → (t.fan f).state = .awaitGrant ∧ (t.fan f).creditWait = true) ∧
        (wish → x.faultInput = false → free → JoinsWaiting f x.credits s t))

/-- A TRIPPED fan leaves when its FAULT input is clear and its coast conditions are met, whichever comes last: OFF, with its
target re-applied, below the trip limit or in INCIDENT, else LOCKED_OUT; while the FAULT input is asserted its times run and
nothing else happens (R54, R58, R60; COAST_CONDITIONS_MET is the moment at which they are met, whatever the timers stand at: log
entries 2 and 22; the standstill time at 0 rpm whatever the pulses per rev: log entry 43). -/
def Obligations.TrippedEndsInOffOrLockedOut : Prop :=
  (∀ (s : State) (f : Fin 4), let x := s.fan f
    x.state = .tripped → x.faultInput = true → ∃ ms, exec (.coastConditionsMet f) s = .next (s.withFan f { x with
      offTime := min 600000 (x.offTime + ms)
      standstill := if x.tach.rpm = 0 then min 5000 (x.standstill + ms) else x.standstill })) ∧
  ∀ (s : State) (f : Fin 4) (c : Instr),
    let x := s.fan f
    let p := s.fanCfg f
    let met := p.minDwell * 1000 ≤ x.offTime ∧
      ((p.pulsesPerRev ≠ 0 ∧ 5000 ≤ x.standstill) ∨ p.coastLimit * 1000 ≤ x.offTime)
    let again := x.tripCount < p.tripLimit ∨ s.modes.mode = .incident
    let wish := x.target.speed ≠ 0 ∧ s.stop.asserted = false ∧ x.held = false
    x.state = .tripped → p.inRange = true → Unserved s f →
    ((c = .coastConditionsMet f ∧ x.faultInput = false) ∨ (c = .faultInputChange f false ∧ met)) →
    ∃ t, exec c s = .next t ∧ FanFrame s t ∧ OtherFans f s t ∧ (t.fan f).tripCount = x.tripCount ∧
      (again → ¬ wish → (t.fan f).state = .off ∧ FirstReport s t (fanUnit f) (.fanState .off .target)) ∧
      (again → wish → ((t.fan f).state = .awaitGrant ∨ (t.fan f).state = .starting) ∧
        (t.fan f).latched = x.target.dir ∧ FirstReport s t (fanUnit f) (.fanState .awaitGrant .target)) ∧
      (again → wish → s.modes.mode = .incident ∨ x.credits ≠ 0 → JoinsWaiting f x.credits s t) ∧
      (again → wish → s.modes.mode ≠ .incident → x.credits = 0 →
        (t.fan f).state = .awaitGrant ∧ (t.fan f).creditWait = true) ∧
      (¬ again → (t.fan f).state = .lockedOut ∧ (t.fan f).lockoutMemory = true ∧
        t.reports = s.reports.arrive (fanUnit f) (.fanState .lockedOut .lockout))

/-- A regeneration adds a credit up to the maximum and restarts or stops the timer; a fan under CREDIT_WAIT then joins the
waiting list, and takes a free slot at once where nobody else asks; a stopped timer brings nothing (R81, R89, R90; log entry 2). -/
def Obligations.CreditRegenerationAddsOne : Prop :=
  ∀ (s : State) (f : Fin 4),
    let x := s.fan f
    let max' := (s.fanCfg f).maxCredits
    let n := min max' (x.credits + 1)
    let timer := if x.credits + 1 < max' then some 0 else none
    (x.creditTimer = none → exec (.creditRegeneration f) s = .next s) ∧
    (x.creditTimer ≠ none → x.creditWait = false →
      exec (.creditRegeneration f) s = .next (s.withFan f { x with credits := n, creditTimer := timer })) ∧
    (x.creditTimer ≠ none → x.creditWait = true → x.state = .awaitGrant → Unserved s f →
      ∃ t, exec (.creditRegeneration f) s = .next t ∧ FanFrame s t ∧ OtherFans f s t ∧ (t.fan f).creditWait = false ∧
        JoinsWaiting f n s t)

/-- The expiry of a start delay gives the fan its entry as its mode target; a running fan that it reverses is cut to COASTING at
once; a delay that does not run brings nothing (R56, R137; the command is the moment at which the delay is reached, whatever it
stands at: log entry 2). -/
def Obligations.StartDelayBringsTheEntry : Prop :=
  ∀ (s : State) (f : Fin 4),
    let x := s.fan f
    ((∀ ms, s.modes.delays[f] ≠ .running ms) → exec (.startDelayExpiry f) s = .next s) ∧
    (∀ ms r e, s.modes.delays[f] = .running ms → s.modes.record = some r → r.fans.find? (fun e => e.fan == f) = some e →
      ∃ t, exec (.startDelayExpiry f) s = .next t ∧
        FanFrame (s.withModes { s.modes with delays := s.modes.delays.set f .expired }) t ∧ OtherFans f s t ∧
        (t.fan f).modeTarget = { dir := e.dir, speed := e.speed } ∧ (t.fan f).target = composedTarget t f ∧
        (s.modes.mode = .incident → s.ctl.pressFan ≠ some f → (x.state = .running ∨ x.state = .starting) →
          e.speed ≠ 0 → e.dir ≠ x.latched → x.target ≠ { dir := e.dir, speed := e.speed } →
          t.fan f = { x.afterCut with modeTarget := ⟨e.dir, e.speed⟩, target := ⟨e.dir, e.speed⟩ } ∧
            FirstReport s t (fanUnit f) (.fanState .coasting .target)))

/-- The one slot, freed by the trip of its holder at the start limit outside INCIDENT and with no urgency, goes to the fan suspended
first, else to the first waiting fan in the priority order; the pointer follows (R57, R74, R79, R81, R82, R85, R88). The TRIPPED
report before the GRANT report: log entry 30; the start limit of the re-granted fan waits for its next test: log entry 3. -/
def Obligations.FreedSlotGoesToTheFirstRequest : Prop :=
  ∀ (s : State) (f g : Fin 4) (τ : Nat),
    let place : Fin 4 → Nat := fun h => match s.ctl.priority, s.arbiter.rotation with
      | .rotating, some q => (h - q - 1).val
      | _, _ => h.val
    s.arbiter.holders = [f] → s.ctl.slotCount = 1 → s.arbiter.urgency = false → s.modes.mode ≠ .incident →
    (s.fan f).state = .starting → (s.fan f).startTimer = some τ → (s.fanCfg f).startLimit * 1000 ≤ τ →
    (s.fan f).limitUntested = false →
    f ∉ s.arbiter.suspended → s.arbiter.waiting[f] = false →
    ∃ t, exec (.startLimitExpiry f) s = .next t ∧ t.fan f = (s.fan f).afterTrip .startTimeout ∧
      (∀ rest, s.arbiter.suspended = g :: rest → (s.fan g).reference ≠ (s.fan g).target.speed * 10 →
        t.arbiter.holders = [g] ∧ t.arbiter.suspended = rest.filter (· != g) ∧ t.arbiter.rotation = some g ∧
        t.fan g = { s.fan g with suspended := false, limitUntested := true } ∧
        t.reports = (s.reports.arrive (fanUnit f) (.fanState .tripped .startTimeout)).arrive (fanUnit g)
          (.fanState (s.fan g).state .grant)) ∧
      (s.arbiter.suspended = [] → s.arbiter.waiting[g] = true →
        (∀ h : Fin 4, place h < place g → s.arbiter.waiting[h] = false) →
        t.arbiter.holders = [g] ∧ t.arbiter.waiting[g] = false ∧ t.arbiter.rotation = some g ∧
        (s.fan g).Started (t.fan g) ∧
        t.reports = (s.reports.arrive (fanUnit f) (.fanState .tripped .startTimeout)).arrive (fanUnit g)
          (.fanState .starting .grant))

/-- The urgent request of the pressurisation fan, arriving with every slot held, suspends the most recent holder and takes its
grant, in INCIDENT without a credit too. The request comes at the moment at which the fan's coast conditions are met (R83, R84,
R88; log entries 2 and 22); the most recent holder is the last of the holders (log entry 13). -/
def Obligations.UrgentRequestPreempts : Prop :=
  ∀ (s : State) (f h : Fin 4) (hs : List (Fin 4)),
    s.ctl.pressFan = some f → s.arbiter.urgency = true → (s.fan f).state = .coasting →
    (s.fanCfg f).inRange = true → Unserved s f → (s.fan f).target.speed ≠ 0 → s.stop.asserted = false →
    (s.fan f).held = false → (s.fan f).faultInput = false → ((s.fan f).credits ≠ 0 ∨ s.modes.mode = .incident) →
    s.arbiter.holders = hs ++ [h] → h ∉ hs → s.ctl.slotCount = hs.length + 1 →
    ∃ t, exec (.coastConditionsMet f) s = .next t ∧
      t.arbiter.holders = hs ++ [f] ∧ t.arbiter.suspended = s.arbiter.suspended ++ [h] ∧
      t.arbiter.waiting = s.arbiter.waiting ∧ t.arbiter.rotation = some f ∧
      t.fan h = { s.fan h with suspended := true } ∧
      (t.fan f).state = .starting ∧ (t.fan f).latched = (s.fan f).target.dir ∧
      (t.fan f).credits = (s.fan f).credits - 1 ∧
      t.reports = ((s.reports.arrive (fanUnit f) (.fanState .awaitGrant .target)).arrive (fanUnit h)
        (.fanState (s.fan h).state .suspended)).arrive (fanUnit f) (.fanState .starting .grant)

/-! ### Tach inputs -/

/-- The tach input filters its pin: samples at the accepted level set the disagreement count to 0, samples at the other level
add to it, and the one that brings it to the filter N in force is an accepted edge. A falling one sets the level; a rising one
counts, and the one that fills the prescale times the period, gives the speed, hands it to the fan and restarts the timeout;
changed tach settings are taken into force instead. The samples after the edge are samples at the accepted level. A timeout
that the samples reach, but for one that a prescaled edge at exactly 2 s restarts, and the timeout's own expiry, give a
measured speed of 0, handed to the fan, and close the period; a stopped timer brings nothing (R54, R66 to R71, R73, R75; log
entries 2 and 15; a period timed with pulses per rev in force 0, which hands nothing to the fan: log entry 49). -/
def Obligations.TachInputMeasuresTheSpeed : Prop :=
  (∀ (s : State) (f : Fin 4) (high : Bool) (samples : Nat),
     let x := s.fan f
     let y := x.tach
     let us := 20 * samples
     let z : Tach := { y with pin := high, timeout := y.timeout.map (· + us), periodAge := y.periodAge.map (· + us)
                              disagreement := if y.level = high then 0 else y.disagreement + samples }
     0 < samples → y.level = high ∨ y.disagreement + samples < y.filterN →
     ((∀ τ, y.timeout = some τ → τ + us < 2000000) →
       exec (.acceptedEdge f high samples) s = .next (s.withFan f { x with tach := z })) ∧
     (∀ τ, y.timeout = some τ → 2000000 ≤ τ + us → ∃ t, exec (.acceptedEdge f high samples) s = .next t ∧
       SpeedTaken f { z with rpm := 0, periodAge := none, lastPeriod := none, timeout := none } s t)) ∧
  (∀ (s : State) (f : Fin 4) (high : Bool),
     let x := s.fan f
     let y := x.tach
     let p := s.fanCfg f
     let need := max 1 (y.filterN - y.disagreement)
     let us := 20 * need
     let same := y.prescale = p.prescale ∧ y.filterN = p.filterN ∧ y.pulses = p.pulsesPerRev
     let fills := high = true ∧ y.prescale ≤ y.prescaleCount + 1
     let count := if high then y.prescaleCount + 1 else y.prescaleCount
     let z : Tach := { y with pin := high, level := high, disagreement := 0, timeout := y.timeout.map (· + us)
                              periodAge := y.periodAge.map (· + us) }
     let late : Tach := { z with rpm := 0, periodAge := none, lastPeriod := none, timeout := none }
     let taken : Tach := { z with prescale := p.prescale, filterN := p.filterN, pulses := p.pulsesPerRev
                                  prescaleCount := 0, periodAge := none }
     y.level ≠ high →
     ((∀ τ, y.timeout = some τ → τ + us < 2000000) → ∃ t, exec (.acceptedEdge f high need) s = .next t ∧
       (¬ same → ¬ (y.pulses ≠ 0 ∧ p.pulsesPerRev = 0) → t = s.withFan f { x with tach := taken }) ∧
       (¬ same → y.pulses ≠ 0 → p.pulsesPerRev = 0 → SpeedTaken f { taken with rpm := 0, lastPeriod := none } s t) ∧
       (same → ¬ fills → t = s.withFan f { x with tach := { z with prescaleCount := count } })) ∧
     ((∀ τ, y.timeout = some τ → τ + us ≤ 2000000) → same → fills → ∃ t, exec (.acceptedEdge f high need) s = .next t ∧
       (y.periodAge = none → t = s.withFan f { x with tach :=
         { z with prescaleCount := 0, periodAge := some 0, timeout := some 0 } }) ∧
       ∀ age, y.periodAge = some age →
         (let timed : Tach := { z with
            prescaleCount := 0, lastPeriod := some (age + us), periodAge := some 0, timeout := some 0 }
          (y.pulses = 0 → t = s.withFan f { x with tach := timed }) ∧
          (y.pulses ≠ 0 → SpeedTaken f
            { timed with rpm := min 9999 (60000000 * y.prescale / (y.pulses * (age + us))) } s t))) ∧
     (∀ τ, y.timeout = some τ → 2000000 ≤ τ + us → ∃ t, exec (.acceptedEdge f high need) s = .next t ∧
       (same → ¬ fills → SpeedTaken f { late with prescaleCount := count } s t) ∧
       (same → fills → 2000000 < τ + us →
         SpeedTaken f { late with prescaleCount := 0, periodAge := some 0, timeout := some 0 } s t) ∧
       (¬ same → SpeedTaken f { taken with rpm := 0, lastPeriod := none, timeout := none } s t)) ∧
     ∀ samples t, need ≤ samples → exec (.acceptedEdge f high need) s = .next t →
       exec (.acceptedEdge f high samples) s = exec (.acceptedEdge f high (samples - need)) t) ∧
  ∀ (s : State) (f : Fin 4),
    let y := (s.fan f).tach
    (y.timeout = none → exec (.tachTimeout f) s = .next s) ∧
    (y.timeout ≠ none → ∃ t, exec (.tachTimeout f) s = .next t ∧
      SpeedTaken f { y with rpm := 0, periodAge := none, lastPeriod := none, timeout := none } s t)

/-! ### The STOP line and RESUME -/

/-- The assertion of STOP empties the arbiter and takes every fan by its state, without a ramp and without a grant to anyone, each
fan whose state changes with its STOP_LINE report; its release sets HELD on every fan without auto-resume, and with it lets every
OFF fan that is not HELD and has a wish ask for a grant, with its STOP_LINE report, or trip there on its asserted FAULT input (R42,
R57, R60, R148, R150; the single report of such a trip: log entry 29). A release of the pin before the assertion was taken changes
no fan (log entry 39). -/
def Obligations.StopLineTakesTheFans : Prop :=
  (∀ s : State,
     (s.stop.asserted = true → exec .stopAsserted s = .next s) ∧
     (s.stop.asserted = false → ∃ t, exec .stopAsserted s = .next t ∧
       FanFrame { s with stop := t.stop } t ∧ t.stop.asserted = true ∧ t.arbiter.holders = [] ∧
       t.arbiter.suspended = [] ∧ (∀ f : Fin 4, t.arbiter.waiting[f] = false) ∧
       FirstReport s t 0 (.line .stop true) ∧
       ∀ f, let x := s.fan f
         (t.fan f = if x.state = .awaitGrant then
             { x with state := .off, reference := 0, startTimer := none, verifyTimer := none, creditWait := false,
                      suspended := false }
           else if drives x.state then x.afterCut
           else { x with creditWait := false, suspended := false }) ∧
         (x.state = .awaitGrant → Reported s t (fanUnit f) (.fanState .off .stopLine)) ∧
         (drives x.state = true → Reported s t (fanUnit f) (.fanState .coasting .stopLine)))) ∧
  ∀ s : State,
    (s.stop.asserted = false → exec .stopReleased s = .next { s with stop := HardLine.clear }) ∧
    (s.stop.asserted = true → s.ctl.autoResume = false → ∃ t, exec .stopReleased s = .next t ∧
      t = { s with stop := HardLine.clear, fans := t.fans, reports := s.reports.arrive 0 (.line .stop false) } ∧
      ∀ f, t.fan f = { s.fan f with held := true }) ∧
    (s.stop.asserted = true → s.ctl.autoResume = true → ArbiterOk s → ∃ t, exec .stopReleased s = .next t ∧
      FanFrame { s with stop := HardLine.clear } t ∧ FirstReport s t 0 (.line .stop false) ∧
      ∀ f, (t.fan f).held = (s.fan f).held ∧
        ((s.fan f).state = .off → ((s.fan f).held = true ∨ (s.fan f).target.speed = 0) → (t.fan f).state = .off) ∧
        ((s.fan f).state = .off → (s.fan f).held = false → (s.fan f).target.speed ≠ 0 →
          ((s.fan f).faultInput = false → ((t.fan f).state = .awaitGrant ∨ (t.fan f).state = .starting) ∧
            (t.fan f).latched = (s.fan f).target.dir ∧ Reported s t (fanUnit f) (.fanState .awaitGrant .stopLine)) ∧
          ((s.fan f).faultInput = true → (t.fan f).state = .tripped ∧ (t.fan f).lastTrip = .driveFault ∧
            Reported s t (fanUnit f) (.fanState .tripped .driveFault))))

/-- RESUME is refused while STOP is asserted, changes nothing with no fan HELD, and else clears HELD on every fan and lets the
OFF fans that have a wish ask for a grant, or trip there on their asserted FAULT input (R42, R57, R60, R151; the single report of
such a trip: log entry 29). -/
def Obligations.ResumeClearsHeld : Prop :=
  ∀ (s : State) (dest : Byte), Ready s dest →
    (s.stop.asserted = true →
      exec (.resume dest []) s = .next (answered 0x33 dest .refused [] (dispatching s))) ∧
    (s.stop.asserted = false → (∀ f, (s.fan f).held = false) →
      exec (.resume dest []) s = .next (answered 0x33 dest .ok [] (dispatching s))) ∧
    (s.stop.asserted = false → (∃ f, (s.fan f).held = true) → ArbiterOk s →
      ∃ t, exec (.resume dest []) s = .next (answered 0x33 dest .ok [] t) ∧ FanFrame (dispatching s) t ∧
        ∀ f, (t.fan f).held = false ∧
          ((s.fan f).state = .off → (s.fan f).target.speed = 0 → (t.fan f).state = .off) ∧
          ((s.fan f).state = .off → (s.fan f).target.speed ≠ 0 →
            ((s.fan f).faultInput = false → ((t.fan f).state = .awaitGrant ∨ (t.fan f).state = .starting) ∧
              (t.fan f).latched = (s.fan f).target.dir ∧ Reported s t (fanUnit f) (.fanState .awaitGrant .target)) ∧
            ((s.fan f).faultInput = true → (t.fan f).state = .tripped ∧ (t.fan f).lastTrip = .driveFault ∧
              Reported s t (fanUnit f) (.fanState .tripped .driveFault))))

/-! ### Escape doors -/

/-- An escape button, and DOOR_ESCAPE, bring their source to the door, which acts by its state; a button let go changes its
level alone, and a press while the level is asserted is an arrival again (R98, R105, R106; both: log entry 20). A raised travel
leaves reclose suspended as it was (log entry 27). -/
def Obligations.EscapeRequestActsByTheState : Prop :=
  (∀ (s : State) (d : Fin 2) (side : EscapeSide) (pressed : Bool),
    let x := s.door d
    let pins : DoorPins := match side with
      | .tunnel => { x.inputs with tunnelButton := pressed }
      | .passage => { x.inputs with passageButton := pressed }
    let s' := s.withDoor d { x with inputs := pins }
    (pressed = false → exec (.escapeButtonPress d side pressed) s = .next s') ∧
    (pressed = true → ∃ t, exec (.escapeButtonPress d side pressed) s = .next t ∧
      EscapeArrives d (match side with
        | .tunnel => .tunnelButton
        | .passage => .passageButton) s' t)) ∧
  ∀ (s : State) (dest u : Byte) (d : Fin 2), Ready s dest → u.toNat = d.val + 13 →
    ((s.door d).state = .inactive →
      exec (.doorEscape dest [u]) s = .next (answered 0x52 dest .refused [] (dispatching s))) ∧
    ((s.door d).state ≠ .inactive → ∃ t, exec (.doorEscape dest [u]) s = .next (answered 0x52 dest .ok [] t) ∧
      EscapeArrives d .supervisory (dispatching s) t)

/-- The ESCAPE line reports its change, brings its source to every active door at its assertion, each door taken as one event
with its DOOR_REQUEST report, and takes it out of every set that holds it at its release (R105, R107, R152; a release before
the assertion was taken: log entry 39; a raised travel leaves reclose suspended as it was: log entry 27). -/
def Obligations.EscapeLineReachesBothDoors : Prop :=
  ∀ s : State,
    (s.escape.asserted = true → exec .escapeAsserted s = .next s) ∧
    (s.escape.asserted = false → ∃ t, exec .escapeAsserted s = .next t ∧
      DoorFrame { s with escape := { asserted := true, settle := none } } t ∧
      FirstReport s t 0 (.line .escape true) ∧
      ∀ d, ((s.door d).state ≠ .inactive → Reported s t (doorUnit d) (.doorRequest .escapeLine)) ∧
        ∃ u v, u.door d = s.door d ∧ u.store = s.store ∧ u.channels = s.channels ∧
          EscapeArrives d .escapeLine u v ∧ t.door d = v.door d) ∧
    (s.escape.asserted = false → exec .escapeReleased s = .next { s with escape := HardLine.clear }) ∧
    (s.escape.asserted = true → ∃ t, exec .escapeReleased s = .next t ∧
      DoorFrame { s with escape := HardLine.clear } t ∧ FirstReport s t 0 (.line .escape false) ∧
      ∀ d, let x := s.door d
        let e := x.escape.put false .escapeLine
        (x.escape.escapeLine = false → t.door d = x) ∧
        (x.escape.escapeLine = true → t.door d = { x with
          escape := e
          reopen := if e.active then x.reopen else none
          holdOpen := if e.scenario = true ∨ x.recloseSuspended = true then x.holdOpen
            else if x.state = .isOpen then holdFor (s.doorCfg d) x e else none }))

/-- The settle expiry of UNLOCKING: an OPEN travel makes the pressure check, a CLOSE travel goes on to CLOSING and ends at once
at the closed end-stop; without a running settle timer nothing happens (R98, R100, R109, R119, R120; the command is the moment
at which the timer expires, whatever it stands at: log entry 2). -/
def Obligations.SettleExpiryGoesOn : Prop :=
  ∀ (s : State) (d : Fin 2),
    let x := s.door d
    let cfg := s.doorCfg d
    (x.state ≠ .unlocking ∨ x.settle = none → exec (.settleExpiry d) s = .next s) ∧
    ∀ r, x.state = .unlocking → x.settle ≠ none → x.travel = some r →
      ∃ t, exec (.settleExpiry d) s = .next t ∧ DoorFrame s t ∧ OtherDoors d s t ∧
        (r.dir = .toOpen → PressureChecked d x s t r) ∧
        (r.dir = .toClose → ClearToClose cfg x r → MovesOn cfg x (t.door d) r) ∧
        (r.dir = .toClose → x.inputs.closedStop = true → x.homed = true →
          Reported s t (doorUnit d) (.doorDone .toClose .endStop x.position r.forced) ∧ Rests d x .closed s t ∧
          (t.door d).retry = cfg.retries ∧ (t.door d).position = x.position)

/-- Relief ends at the step of 100 ms that reaches the relief timeout, forced, or blind at the one that reaches the blind relief
time where the last observation found no usable average and that step is no later: the RELIEF report, then OPENING. A limit
lowered below the time already run is reached at the next step (R122, R123, R124; the command is the moment of that step: log
entries 2 and 23; the average in the report of a TIMEOUT: log entry 47). -/
def Obligations.ReliefTimersEndRelief : Prop :=
  ∀ (s : State) (d : Fin 2),
    let x := s.door d
    let cfg := s.doorCfg d
    (x.state ≠ .relieving ∨ x.reliefTimer = none →
      exec (.reliefTimeout d) s = .next s ∧ exec (.blindReliefExpiry d) s = .next s) ∧
    ∀ τ, x.reliefTimer = some τ →
      (let step : Nat → Nat := fun limit => max (limit * 10) (τ / 100 + 1)
       let blind := x.observedUsable = false ∧ step cfg.blindTime ≤ step cfg.reliefTimeout
       (¬ blind → exec (.blindReliefExpiry d) s = .next s) ∧
       ∀ r, x.state = .relieving → x.travel = some r → r.dir = .toOpen → ClearToOpen cfg x r →
        (¬ blind → ∃ t, exec (.reliefTimeout d) s = .next t ∧ DoorFrame s t ∧ OtherDoors d s t ∧
          FirstReport s t (doorUnit d) (.relief .timeout (step cfg.reliefTimeout) x.lastObserved) ∧
          MovesOn cfg x (t.door d) { r with forced := true }) ∧
        (blind → ∀ c, c = .reliefTimeout d ∨ c = .blindReliefExpiry d → ∃ t, exec c s = .next t ∧ DoorFrame s t ∧
          OtherDoors d s t ∧ FirstReport s t (doorUnit d) (.relief .blind (step cfg.blindTime) none) ∧
          MovesOn cfg x (t.door d) r))

/-- A relieving door observes its relief channel at each of that channel's sample instants: at most the limit ends relief
PRESSURE_OK, no usable average at or past the blind relief time ends it BLIND, anything else is recorded (R121, R123,
R124). -/
def Obligations.ReliefObservesItsChannel : Prop :=
  ∀ (s : State) (d : Fin 2) (c : Fin 8) (current τ : Nat) (r : Travel),
    let x := s.door d
    let cfg := s.doorCfg d
    x.state = .relieving → x.reliefChannel = some c → x.reliefTimer = some τ → x.travel = some r → r.dir = .toOpen →
    ClearToOpen cfg x r →
    ∃ t, exec (.sampleInstant c current) s = .next t ∧ SampleFrame s t ∧
      (let ch := t.channel c
       (Passes ch cfg.pressureLimit →
         Reported s t (doorUnit d) (.relief .pressureOk (τ / 100) ch.average) ∧ MovesOn cfg x (t.door d) r) ∧
       (Usable ch → ¬ Passes ch cfg.pressureLimit →
         t.door d = { x with lastObserved := ch.average, observedUsable := true }) ∧
       (¬ Usable ch → τ < cfg.blindTime * 1000 →
         t.door d = { x with lastObserved := ch.average, observedUsable := false }) ∧
       (¬ Usable ch → cfg.blindTime * 1000 ≤ τ →
         Reported s t (doorUnit d) (.relief .blind (τ / 100) none) ∧ MovesOn cfg x (t.door d) r))

/-- The travel time limit ends a motored travel TIMED_OUT: FAULT, the slot emptied without a report, momentary sources
consumed; with no travel timer running under a motor nothing happens (R97, R99, R105, R111; log entry 2; ahead of a target that
the travel was raised past: log entry 45). -/
def Obligations.TravelTimeoutFaults : Prop :=
  ∀ (s : State) (d : Fin 2),
    let x := s.door d
    let motored := (x.state = .opening ∨ x.state = .closing) ∧ x.travelTimer ≠ none
    (¬ motored → exec (.travelTimeout d) s = .next s) ∧
    ∀ r, motored → x.travel = some r → ∃ t, exec (.travelTimeout d) s = .next t ∧ DoorFrame s t ∧ OtherDoors d s t ∧
      FirstReport s t (doorUnit d) (.doorDone r.dir .timedOut x.position r.forced) ∧
      (let y := t.door d
       y.state = .fault ∧ y.travel = none ∧ y.slot = none ∧ y.travelTimer = none ∧ y.creep = false ∧
         y.position = x.position ∧ y.homed = x.homed ∧ y.inputs = x.inputs ∧
         y.escape = { x.escape with tunnelButton := false, passageButton := false, supervisory := false })

/-- The hold-open timer recloses an OPEN door whose conditions hold, and presence holds the timer at 0 and starts it anew; the
reopen timer takes the escape again while the set is not empty (R104, R107, R108; log entry 2). -/
def Obligations.HoldOpenAndReopenTimers : Prop :=
  ∀ (s : State) (d : Fin 2),
    let x := s.door d
    let cfg := s.doorCfg d
    let close : Travel := { dir := .toClose, mode := .full, given := none, target := some 0, reason := .autoReclose,
                            forced := false }
    let runs := x.state = .isOpen ∧ x.holdOpen ≠ none ∧ cfg.autoReclose = true ∧ x.escape.escapeLine = false ∧
      x.escape.scenario = false ∧ x.recloseSuspended = false ∧ x.inputs.presence = false
    (¬ runs → exec (.holdOpenExpiry d) s = .next s) ∧
    (runs → ClearToClose cfg x close → ∃ t, exec (.holdOpenExpiry d) s = .next t ∧ DoorFrame s t ∧ OtherDoors d s t ∧
      MovesOn cfg x (t.door d) close) ∧
    (∀ b, x.inputs.presence = b → exec (.presenceChange d b) s = .next s) ∧
    (x.inputs.presence = false → exec (.presenceChange d true) s = .next (s.withDoor d { x with
      inputs := { x.inputs with presence := true }, holdOpen := x.holdOpen.map fun _ => 0 })) ∧
    (x.inputs.presence = true → exec (.presenceChange d false) s = .next (s.withDoor d { x with
      inputs := { x.inputs with presence := false }
      holdOpen := if x.state = .isOpen then holdFor cfg x x.escape else none })) ∧
    (x.reopen = none → exec (.reopenExpiry d) s = .next s) ∧
    (x.reopen ≠ none → x.escape.active = false →
      exec (.reopenExpiry d) s = .next (s.withDoor d { x with reopen := none })) ∧
    (x.reopen ≠ none → x.escape.active = true → x.state = .halted ∨ x.state = .unhomed →
      ∃ t, exec (.reopenExpiry d) s = .next t ∧ DoorFrame s t ∧ OtherDoors d s t ∧
        (x.state = .unhomed ∨ x.atZero cfg = false → ClearToOpen cfg x (currentEscape cfg) →
          MovesOn cfg x (t.door d) (currentEscape cfg) ∧ (t.door d).reopen = none) ∧
        (x.state = .halted → x.atZero cfg = true → PressureChecked d x s t (currentEscape cfg)))

/-- An encoder edge moves the position by one, saturated, or not at all; a door at rest only moves, but for one in CLOSED that
ceases to be at 0; a homed moving door ends TARGET_REACHED once the target is within the tolerance, but not on a homing travel;
a travel that goes on switches CREEP as R94 has it and does nothing else. A door that comes to rest with a loaded slot starts
its record from there, behind a homing travel where it is not homed (R94 to R97, R99, R100, R101, R110). A CLOSED door that was
already off 0 stays CLOSED: log entry 46; a travel goes on under a safety edge that has stayed asserted: log entry 18; a homing
travel homed on its way runs on under R94 alone: log entry 48. -/
def Obligations.EncoderEdgeMovesTheDoor : Prop :=
  ∀ (s : State) (d : Fin 2) (edge : QuadEdge),
    let x := s.door d
    let cfg := s.doorCfg d
    let p : Int := match edge with
      | .towardOpen => min (x.position + 1) 32767
      | .towardClose => max (x.position - 1) (-32768)
      | .bothAtOnce => x.position
    let z := { x with position := p }
    (edge = .bothAtOnce → exec (.encoderEdge d edge) s = .next s) ∧
    (edge ≠ .bothAtOnce → -32768 ≤ x.position → x.position ≤ 32767 → ∃ t, exec (.encoderEdge d edge) s = .next t ∧
      DoorFrame s t ∧ OtherDoors d s t ∧
      (t.door d).position = p ∧ (t.door d).homed = x.homed ∧ (t.door d).inputs = x.inputs ∧
      (travelling x.state = false → (x.state = .closed → x.atZero cfg = true → z.atZero cfg = true) →
        t = s.withDoor d { z with creep := false }) ∧
      (x.state = .closed → x.atZero cfg = true → z.atZero cfg = false → (t.door d).state = .halted) ∧
      (∀ r target, x.state = .opening → x.travel = some r → r.dir = .toOpen → r.target = some target → x.homed = true →
        x.inputs.openStop = false → target - cfg.tolerance ≤ p →
        FirstReport s t (doorUnit d) (.doorDone .toOpen .targetReached p r.forced) ∧
        Rests d z (comesToRest cfg z .toOpen) s t) ∧
      (∀ r target, x.state = .closing → x.travel = some r → r.dir = .toClose → r.target = some target → x.homed = true →
        x.inputs.closedStop = false → r.reason ≠ .homing → p ≤ target + cfg.tolerance →
        FirstReport s t (doorUnit d) (.doorDone .toClose .targetReached p r.forced) ∧
        Rests d z (comesToRest cfg z .toClose) s t) ∧
      (∀ r, (x.state = .opening ∧ r.dir = .toOpen) ∨ (x.state = .closing ∧ r.dir = .toClose) → x.travel = some r →
        GoesOn cfg z r →
        t = s.withDoor d { z with
          creep := !x.homed || r.target.any fun q => decide ((p - q).natAbs ≤ cfg.creepZone) }))

/-- An end-stop that becomes asserted sets the position and the homed flag in every state, brings an UNHOMED door to rest and
ends a travel into it END_STOP; elsewhere at rest it does no more, but for a CLOSED door that its position takes off 0, which
goes to HALTED; one that clears changes its level, and takes a CLOSED door that it held at 0 to HALTED. Either change tests the
current travel, which ends where its target lies behind the door. A door that comes to rest with a loaded slot starts its
record from there, such as the travel asked of a door that has homed (R95, R96, R97, R99 to R101, R110; log entry 24). A travel
whose set position reaches its target too ends END_STOP: log entry 45; a CLOSED door that was already off 0 stays CLOSED: log
entry 46. -/
def Obligations.EndStopHomesTheDoor : Prop :=
  ∀ (s : State) (d : Fin 2) (stop : EndStop),
    let x := s.door d
    let cfg := s.doorCfg d
    let level := match stop with
      | .openStop => x.inputs.openStop
      | .closedStop => x.inputs.closedStop
    let pins : Bool → DoorPins := fun b => match stop with
      | .openStop => { x.inputs with openStop := b }
      | .closedStop => { x.inputs with closedStop := b }
    let p : Int := match stop with
      | .openStop => cfg.openPosition
      | .closedStop => 0
    let dir := match stop with
      | .openStop => DoorDir.toOpen
      | .closedStop => DoorDir.toClose
    let z := { x with inputs := pins true, position := p, homed := true }
    (exec (.endStopChange d stop level) s = .next s) ∧
    (level = true → ¬ (stop = .closedStop ∧ x.state = .closed) → NothingEnds cfg { x with inputs := pins false } →
      exec (.endStopChange d stop false) s = .next (s.withDoor d { x with inputs := pins false })) ∧
    (∀ r, level = true → x.travel = some r → TargetMet cfg { x with inputs := pins false } r →
      ∃ t, exec (.endStopChange d stop false) s = .next t ∧ DoorFrame s t ∧ OtherDoors d s t ∧
        FirstReport s t (doorUnit d) (.doorDone r.dir .targetReached x.position r.forced) ∧
        Rests d { x with inputs := pins false } (comesToRest cfg { x with inputs := pins false } r.dir) s t) ∧
    (level = true → stop = .closedStop → x.state = .closed → ∃ t, exec (.endStopChange d stop false) s = .next t ∧
      DoorFrame s t ∧ OtherDoors d s t ∧ (t.door d).position = x.position ∧ (t.door d).inputs = pins false ∧
      (t.door d).state = if x.position.natAbs ≤ cfg.tolerance then .closed else .halted) ∧
    (level = false → ∃ t, exec (.endStopChange d stop true) s = .next t ∧ DoorFrame s t ∧ OtherDoors d s t ∧
      (t.door d).homed = true ∧ (t.door d).position = p ∧ (t.door d).inputs = pins true ∧
      (x.state = .unhomed → x.travel = none →
        (t.door d).state = (match stop with
          | .openStop => .isOpen
          | .closedStop => restsAfter cfg z .toClose)) ∧
      (travelling x.state = false → x.state ≠ .unhomed →
        (x.state = .closed → x.atZero cfg = true → z.atZero cfg = true) → t = s.withDoor d { z with creep := false }) ∧
      (x.state = .closed → x.atZero cfg = true → z.atZero cfg = false → (t.door d).state = .halted) ∧
      (∀ r, (x.motorOpen = true ∧ dir = .toOpen ∨ x.motorClose = true ∧ dir = .toClose) → x.travel = some r →
        r.dir = dir →
        FirstReport s t (doorUnit d) (.doorDone dir .endStop p r.forced) ∧ Rests d z (comesToRest cfg z dir) s t) ∧
      (∀ r, x.travel = some r → TargetMet cfg z r →
        FirstReport s t (doorUnit d) (.doorDone r.dir .targetReached p r.forced) ∧
        Rests d z (comesToRest cfg z r.dir) s t))

/-- The safety edge: a CLOSE travel ends OBSTRUCTED and reverses in the same event, its slot kept and the retries of an
auto-reclose counted down to suspension; an OPEN travel ends OBSTRUCTED and stops the door, and a loaded slot is then
considered; elsewhere, and where it clears, the edge changes its level alone, but for a travel whose target lies behind the
door, which either change ends (R96, R97, R99, R100, R101, R103, R104; log entry 18). -/
def Obligations.SafetyEdgeObstructs : Prop :=
  ∀ (s : State) (d : Fin 2),
    let x := s.door d
    let cfg := s.doorCfg d
    let at' : Bool → Door := fun b => { x with inputs := { x.inputs with safetyEdge := b } }
    (∀ b, x.inputs.safetyEdge = b → exec (.safetyEdgeChange d b) s = .next s) ∧
    (x.inputs.safetyEdge = true → NothingEnds cfg (at' false) →
      exec (.safetyEdgeChange d false) s = .next (s.withDoor d (at' false))) ∧
    (∀ b r, x.inputs.safetyEdge ≠ b → x.travel = some r → TargetMet cfg (at' b) r →
      ∃ t, exec (.safetyEdgeChange d b) s = .next t ∧ DoorFrame s t ∧ OtherDoors d s t ∧
        FirstReport s t (doorUnit d) (.doorDone r.dir .targetReached x.position r.forced) ∧
        Rests d (at' b) (comesToRest cfg (at' b) r.dir) s t) ∧
    (x.inputs.safetyEdge = false → x.state ≠ .opening → x.state ≠ .closing →
      (travelling x.state = true → ∀ r, x.travel = some r → r.mode ≠ .hold) →
      exec (.safetyEdgeChange d true) s = .next (s.withDoor d (at' true))) ∧
    (∀ r, x.inputs.safetyEdge = false → x.state = .closing → x.travel = some r → r.dir = .toClose →
      x.inputs.closedStop = false → (x.homed = true → ∀ p, r.target = some p → p + cfg.tolerance < x.position) →
      x.inputs.openStop = false → 1 ≤ cfg.travelLimit →
      (x.homed = true → x.position < (cfg.openPosition : Int) - cfg.tolerance) →
      (let left := if r.reason = .autoReclose then x.retry - 1 else x.retry
       let reason := if x.escape.active then .escape else r.reason
       ∃ t, exec (.safetyEdgeChange d true) s = .next t ∧ DoorFrame s t ∧ OtherDoors d s t ∧
        FirstReport s t (doorUnit d) (.doorDone .toClose .obstructed x.position r.forced) ∧
        MovesOn cfg { at' true with retry := left } (t.door d)
          { dir := .toOpen, mode := .full, given := none, target := some cfg.openPosition, reason := reason,
            forced := false } ∧
        (t.door d).slot = x.slot ∧
        (reason = .autoReclose → (t.door d).recloseSuspended = (x.recloseSuspended || left == 0)))) ∧
    (∀ r, x.inputs.safetyEdge = false → x.state = .opening → x.travel = some r → r.dir = .toOpen →
      x.inputs.openStop = false → (x.homed = true → ∀ p, r.target = some p → x.position < p - cfg.tolerance) →
      ∃ t, exec (.safetyEdgeChange d true) s = .next t ∧ DoorFrame s t ∧ OtherDoors d s t ∧
        FirstReport s t (doorUnit d) (.doorDone .toOpen .obstructed x.position r.forced) ∧
        Rests d (at' true) (if x.homed then .halted else .unhomed) s t ∧
        (x.slot = none → (t.door d).escape = x.escape ∧ (t.door d).reopen = if x.escape.active then some 0 else none))

/-- A press and a release of a service button are taken in every state and leave the other door as it was. The button acts on a
door at rest while MAINT is asserted, starting a HOLD travel from the state the door is in: after the settle time from
CLOSED_LOCKED, behind a homing travel from UNHOMED, by the pressure check for an opening from CLOSED or from HALTED at 0, at
once from elsewhere; a closing from CLOSED ends at once. An opening with an escape request active is an escape travel. Letting
the button go ends a HOLD travel of its direction RELEASED, in UNLOCKING and RELIEVING too, where the door comes to rest in
CLOSED, its retries set, and relocks, and a loaded slot starts its record (`SlotsAsked`: never one of reason AUTO_RECLOSE, which
might lose a retry again); with no travel current, or beside a travel that goes on (a FULL or STEP travel, a HOLD travel of the
other direction whose own button is held), it changes the level alone, and so does a press that does not act. A travel whose
target lies behind the door ends at either (R96 to R102, R108 to R110, R119, R125; a press while the level is asserted is a
press again: log entry 20; a travel goes on under a safety edge that has stayed asserted: log entry 18). -/
def Obligations.ServiceButtonsHoldTheDoor : Prop :=
  ∀ (s : State) (d : Fin 2) (dir : DoorDir),
    let x := s.door d
    let cfg := s.doorCfg d
    let z : Bool → Door := fun b => { x with inputs := match dir with
      | .toOpen => { x.inputs with serviceOpen := b }
      | .toClose => { x.inputs with serviceClose := b } }
    let asked : Travel := { dir := dir, mode := .hold, given := none, target := none, reason := .service, forced := false }
    let closing : Travel := { asked with target := some 0 }
    let opening : Travel := if x.escape.active then currentEscape cfg else { asked with target := some cfg.openPosition }
    let acts := s.maint.asserted = true ∧ travelling x.state = false ∧ x.state ≠ .fault ∧ x.state ≠ .inactive ∧
      (dir = .toOpen ∨ x.escape.active = false)
    (∃ t, exec (.serviceButtonPress d dir) s = .next t ∧ DoorFrame s t ∧ OtherDoors d s t) ∧
    (∃ t, exec (.serviceButtonRelease d dir) s = .next t ∧ DoorFrame s t ∧ OtherDoors d s t) ∧
    (¬ acts → NothingEnds cfg (z true) → exec (.serviceButtonPress d dir) s = .next (s.withDoor d (z true))) ∧
    (∀ b r, x.travel = some r → TargetMet cfg (z b) r →
      ∃ t, exec (if b then .serviceButtonPress d dir else .serviceButtonRelease d dir) s = .next t ∧
        DoorFrame s t ∧ OtherDoors d s t ∧
        FirstReport s t (doorUnit d) (.doorDone r.dir .targetReached x.position r.forced) ∧
        Rests d (z b) (comesToRest cfg (z b) r.dir) s t) ∧
    (acts → ∃ t, exec (.serviceButtonPress d dir) s = .next t ∧ DoorFrame s t ∧ OtherDoors d s t ∧
      (t.door d).inputs = (z true).inputs ∧ (t.door d).position = x.position ∧
      (x.state = .closedLocked → (t.door d).state = .unlocking ∧ (t.door d).settle = some 0 ∧
        ∃ r, (t.door d).travel = some r ∧ r.dir = dir ∧
          r.reason = (if x.escape.active then .escape else .service) ∧
          r.mode = (if x.escape.active then .full else .hold)) ∧
      (x.state = .unhomed → dir = .toClose ∨ x.escape.active = false →
        (let r : Travel := { dir := .toClose, mode := .full, given := none, target := some 0, reason := .homing,
                             forced := false }
         x.slot = none → ClearToClose cfg (z true) r →
          MovesOn cfg (z true) (t.door d) r ∧ (t.door d).slot = some asked)) ∧
      (x.state = .isOpen ∨ x.state = .halted ∨ x.state = .closed → dir = .toClose → ClearToClose cfg (z true) closing →
        MovesOn cfg (z true) (t.door d) closing) ∧
      (x.state = .closed → dir = .toClose → x.homed = true → x.slot = none →
        x.inputs.closedStop = true ∨ x.position ≤ cfg.tolerance →
        Reported s t (doorUnit d)
            (.doorDone .toClose (if x.inputs.closedStop then .endStop else .targetReached) x.position false) ∧
          (t.door d).travel = none ∧ (t.door d).state = restsAfter cfg (z true) .toClose) ∧
      (x.state = .closed ∨ (x.state = .halted ∧ x.atZero cfg = true) → dir = .toOpen →
        PressureChecked d (z true) s t opening) ∧
      (x.state = .isOpen ∨ (x.state = .halted ∧ x.atZero cfg = false) ∨ (x.state = .unhomed ∧ x.escape.active = true) →
        dir = .toOpen → ClearToOpen cfg (z true) opening → MovesOn cfg (z true) (t.door d) opening)) ∧
    (∀ r, (x.state = .opening ∧ dir = .toOpen ∨ x.state = .closing ∧ dir = .toClose) → x.travel = some r → r.dir = dir →
      r.mode = .hold →
      (match dir with
        | .toOpen => x.inputs.openStop
        | .toClose => x.inputs.closedStop) = false →
      (x.homed = true → ∀ p, r.target = some p → (dir = .toOpen → x.position < p - cfg.tolerance) ∧
        (dir = .toClose → p + cfg.tolerance < x.position)) →
      ∃ t, exec (.serviceButtonRelease d dir) s = .next t ∧ DoorFrame s t ∧ OtherDoors d s t ∧
        FirstReport s t (doorUnit d) (.doorDone dir .released x.position r.forced) ∧ (t.door d).position = x.position ∧
        (t.door d).inputs = (z false).inputs ∧ Rests d (z false) (comesToRest cfg (z false) dir) s t) ∧
    (∀ r, x.state = .unlocking ∨ x.state = .relieving → x.travel = some r → r.dir = dir → r.mode = .hold →
      ∃ t, exec (.serviceButtonRelease d dir) s = .next t ∧ DoorFrame s t ∧ OtherDoors d s t ∧
        FirstReport s t (doorUnit d) (.doorDone dir .released x.position r.forced) ∧ (t.door d).position = x.position ∧
        (t.door d).inputs = (z false).inputs ∧ Rests d (z false) .closed s t ∧
        ((∀ n, x.slot = some n → n.reason ≠ .autoReclose) → (t.door d).retry = cfg.retries) ∧
        (x.slot = none → (t.door d).settle = none ∧ (t.door d).reliefTimer = none ∧ (t.door d).reliefChannel = none)) ∧
    (NothingEnds cfg (z false) → exec (.serviceButtonRelease d dir) s = .next (s.withDoor d (z false))) ∧
    (x.travel = none → exec (.serviceButtonRelease d dir) s = .next (s.withDoor d (z false)))

/-- DOOR_TRAVEL: its refusals in their order, a queued record in the slot of a travelling door, and the start from rest, with
the disposition in the reply (R96, R97, R101, R110, R112; the target as an unsigned number: log entry 41). -/
def Obligations.DoorTravelIsCheckedAndStarts : Prop :=
  ∀ (s : State) (dest u dir mode flags hi lo : Byte) (d : Fin 2) (D : DoorDir) (M : TravelMode),
    let x := s.door d
    let cfg := s.doorCfg d
    let c := Instr.doorTravel dest [u, dir, mode, flags, hi, lo]
    let refuses := fun code => exec c s = .next (answered 0x50 dest code [] (dispatching s))
    let given := if flags.getLsbD 1 then some (hi.toNat * 256 + lo.toNat) else none
    let asked : Travel := { dir := D, mode := M, given := given, target := none, reason := .supervisory, forced := false }
    let off := x.state = .inactive ∨ x.state = .fault
    let noKey := M ≠ .full ∧ s.maint.asserted = false
    let against := D = .toClose ∧ x.escape.active = true
    let goal : Int := match M, given, D with
      | .full, some g, _ => min g cfg.openPosition
      | .step, _, .toOpen => max 0 (min (x.position + cfg.stepSize) cfg.openPosition)
      | .step, _, .toClose => max 0 (min (x.position - cfg.stepSize) cfg.openPosition)
      | _, _, .toOpen => cfg.openPosition
      | _, _, .toClose => 0
    Ready s dest → u.toNat = d.val + 13 →
    (2 ≤ dir.toNat ∨ 3 ≤ mode.toNat → refuses .badParam) ∧
    (dir.toNat = doorDirCode D → mode.toNat = travelModeCode M →
      (off → refuses .refused) ∧
      (¬ off → noKey → refuses .noKey) ∧
      (¬ off → ¬ noKey → against → refuses .refused) ∧
      (¬ off → ¬ noKey → ¬ against → travelling x.state = true → flags.getLsbD 0 = false → refuses .busy) ∧
      (¬ off → ¬ noKey → ¬ against → travelling x.state = true → flags.getLsbD 0 = true →
        exec c s = .next (answered 0x50 dest .ok [2] (((dispatching s).withReports
          (match x.slot with
            | some old => s.reports.arrive (doorUnit d) (.nextReplaced old.dir old.reason)
            | none => s.reports)).withDoor d { x with slot := some asked }))) ∧
      (¬ off → ¬ noKey → ¬ against → travelling x.state = false →
        (x.state = .unhomed ∧ ¬ (D = .toOpen ∧ x.escape.active = true) →
          ∃ t, exec c s = .next (answered 0x50 dest .ok [1] t) ∧ DoorFrame (dispatching s) t ∧ OtherDoors d s t ∧
            (let r : Travel := { dir := .toClose, mode := .full, given := none, target := some 0, reason := .homing,
                                 forced := false }
             ClearToClose cfg x r → MovesOn cfg x (t.door d) r ∧ (t.door d).slot = some asked)) ∧
        (¬ (x.state = .unhomed ∧ ¬ (D = .toOpen ∧ x.escape.active = true)) →
          ∃ t, exec c s = .next (answered 0x50 dest .ok [0] t) ∧ DoorFrame (dispatching s) t ∧ OtherDoors d s t ∧
            (let r : Travel := if D = .toOpen ∧ x.escape.active = true then currentEscape cfg
               else { asked with target := some goal }
             (x.state = .closedLocked → (r.mode = .hold → D = .toOpen → x.inputs.serviceOpen = true) →
               (r.mode = .hold → D = .toClose → x.inputs.serviceClose = true) →
               (t.door d).state = .unlocking ∧ (t.door d).settle = some 0 ∧ (t.door d).travel = some r) ∧
             (x.state = .closed ∨ (x.state = .halted ∧ x.atZero cfg = true) → D = .toOpen →
               PressureChecked d x (dispatching s) t r) ∧
             (x.state = .isOpen ∨ (x.state = .halted ∧ x.atZero cfg = false) → D = .toOpen → ClearToOpen cfg x r →
               MovesOn cfg x (t.door d) r) ∧
             (x.state ≠ .closedLocked → D = .toClose → ClearToClose cfg x r → MovesOn cfg x (t.door d) r)))))

/-- DOOR_ABORT: refused against an escape travel and while the reopen timer runs in HALTED or UNHOMED, no effect without a
travel, and otherwise the slot is discarded and the travel ends ABORTED (R100, R109, R113). -/
def Obligations.DoorAbortEndsTheTravel : Prop :=
  ∀ (s : State) (dest u : Byte) (d : Fin 2),
    let x := s.door d
    let cfg := s.doorCfg d
    let escape := ∃ r, x.travel = some r ∧ r.reason = .escape
    let reopening := (x.state = .halted ∨ x.state = .unhomed) ∧ x.reopen ≠ none
    Ready s dest → u.toNat = d.val + 13 →
    (escape ∨ reopening → exec (.doorAbort dest [u]) s = .next (answered 0x51 dest .refused [] (dispatching s))) ∧
    (¬ reopening → x.travel = none →
      exec (.doorAbort dest [u]) s = .next (answered 0x51 dest .ok [] (dispatching s))) ∧
    (∀ r, x.travel = some r → r.reason ≠ .escape → travelling x.state = true → x.homed = true →
      ∃ t, exec (.doorAbort dest [u]) s = .next (answered 0x51 dest .ok [] t) ∧ DoorFrame (dispatching s) t ∧
        OtherDoors d s t ∧ FirstReport s t (doorUnit d) (.doorDone r.dir .aborted x.position r.forced) ∧
        (let y := t.door d
         y.travel = none ∧ y.slot = none ∧ y.position = x.position ∧ y.inputs = x.inputs ∧
          y.state = (if x.state = .unlocking ∨ x.state = .relieving then
              (if cfg.lockPolicy = .lockedWhenClosed ∧ x.unlockPolicy = false then .closedLocked else .closed)
            else restsAfter cfg x r.dir)))

/-! ### Modes and engagements -/

/-- SET_MODE by its checks and its three cases, and the link timeout, which marks the line lost and ends MANUAL (R44, R130,
R131, R132, R145; log entry 2). -/
def Obligations.ModeRequestsAndLineLoss : Prop :=
  (∀ (s : State) (dest v : Byte),
    let c := Instr.setMode dest [v]
    let answers := fun code => exec c s = .next (answered 0x30 dest code [] (dispatching s))
    Ready s dest →
    (2 ≤ v.toNat → answers .badParam) ∧
    (v.toNat < 2 → s.modes.mode = .incident → answers .refused) ∧
    (v = 1 → s.modes.mode ≠ .incident → s.maint.asserted = false → answers .noKey) ∧
    (v = 0 → s.modes.mode = .auto → answers .ok) ∧
    (v = 1 → s.modes.mode = .manual → s.maint.asserted = true → answers .ok) ∧
    (v = 1 → s.modes.mode = .auto → s.maint.asserted = true → ∃ t, exec c s = .next (answered 0x30 dest .ok [] t) ∧
      t = { dispatching s with
        modes := { s.modes with mode := .manual, linkTimer := some 0 }
        fans := t.fans
        reports := s.reports.arrive 0 (.mode .manual s.modes.engaged .setMode 0) } ∧
      ∀ f, t.fan f = { s.fan f with setpoint := none }) ∧
    (v = 0 → s.modes.mode = .manual → ∃ t, exec c s = .next (answered 0x30 dest .ok [] t) ∧
      LeftManual .setMode (dispatching s) t)) ∧
  ∀ s : State,
    let lost := report 0 (.link false) (s.withModes { s.modes with linkTimer := none, lineLost := true })
    (s.modes.linkTimer = none → exec .linkTimeout s = .next s) ∧
    (s.modes.linkTimer ≠ none → s.modes.mode ≠ .manual → exec .linkTimeout s = .next lost) ∧
    (s.modes.linkTimer ≠ none → s.modes.mode = .manual → ∃ t, exec .linkTimeout s = .next t ∧
      LeftManual .lineLost lost t)

/-- The MAINT line: its assertion is reported and does nothing else; its release ends MANUAL and leaves no HOLD or STEP travel
current or queued at a door, a FULL travel and its slot untouched, and a FULL record in the slot started behind a travel that
ends. In MANUAL the mode controller takes the release behind the doors `before` and ahead of the doors `after`, in whatever
order log entry 5 leaves open: the MODE report stands behind the LINE report and what the doors `before` bring, and before
every report of a fan that the change of mode reaches and whatever the doors `after` bring (R97, R100, R101, R130, R132, R153,
R154; log entry 39). -/
def Obligations.MaintLineIsTheKey : Prop :=
  ∀ s : State,
    (s.maint.asserted = true → exec .maintAsserted s = .next s) ∧
    (s.maint.asserted = false → exec .maintAsserted s = .next { s with
      maint := { asserted := true, settle := none }, reports := s.reports.arrive 0 (.line .maint true) }) ∧
    (s.maint.asserted = false → exec .maintReleased s = .next { s with maint := HardLine.clear }) ∧
    (s.maint.asserted = true → ∃ t, exec .maintReleased s = .next t ∧ BlockFrame s t ∧ t.maint = HardLine.clear ∧
      t.stop = s.stop ∧ t.escape = s.escape ∧ t.channels = s.channels ∧ t.demand = s.demand ∧
      FirstReport s t 0 (.line .maint false) ∧
      (s.modes.mode ≠ .manual → t.modes = s.modes) ∧
      (s.modes.mode = .manual → t.modes = { s.modes with mode := .auto } ∧
        Reported s t 0 (.mode .auto s.modes.engaged .maintReleased 0) ∧
        (∃ before after : List (Fin 2), (before ++ after).Perm [0, 1] ∧
          (let released := report 0 (.line .maint false) { s with maint := HardLine.clear }
           let u := takeEach before maintAtDoor released.nextChoice
           ∃ v, u.modes = s.modes ∧ Queued (s.reports.arrive 0 (.line .maint false)) u.reports ∧
            (∀ d ∈ after, u.door d = s.door d) ∧ LeftManual .maintReleased u v ∧ Queued v.reports t.reports ∧
            t = takeEach after maintAtDoor v)) ∧
        ((∀ d r, (s.door d).travel = some r ∨ (s.door d).slot = some r → r.mode = .full) →
          Queued ((s.reports.arrive 0 (.line .maint false)).arrive 0 (.mode .auto s.modes.engaged .maintReleased 0))
            t.reports) ∧
        ∀ f, (t.fan f).setpoint = none ∧ (t.fan f).modeTarget = autoWish t f ∧
          (t.fan f).target = composedTarget t f) ∧
      ∀ d, (∀ r, (t.door d).travel = some r ∨ (t.door d).slot = some r → r.mode = .full) ∧
        (∀ r, (s.door d).travel = some r → r.mode ≠ .full →
          Reported s t (doorUnit d) (.doorDone r.dir (if r.mode = .hold then .released else .aborted)
            (s.door d).position r.forced) ∧
          Rests d { s.door d with slot := (s.door d).slot.filter fun n => n.mode == .full }
            (if (s.door d).state = .unlocking ∨ (s.door d).state = .relieving then .closed
              else comesToRest (s.doorCfg d) (s.door d) r.dir) s t) ∧
        ((∀ r, (s.door d).travel = some r ∨ (s.door d).slot = some r → r.mode = .full) → t.door d = s.door d))

/-- ENGAGE_NOW, and ENGAGE addressed or broadcast: engagement, re-engagement and the leaving of INCIDENT, the refusals, and
ENGAGE_MISSED; what an engagement does at the modes, the fans, the lockouts and the doors is `Engaged`, what leaving does is
`LeftIncident` (R59, R90, R104, R106, R107, R109, R130, R136, R139 to R141, R143, R144; a raised travel leaves reclose
suspended as it was: log entry 27; a fan that trips at its entry to AWAIT_GRANT: log entry 29). -/
def Obligations.EngagementsAreTaken : Prop :=
  ∀ (s : State) (dest b : Byte), Quiet s →
    let s' := dispatching s
    let out := s.modes.mode ≠ .incident
    (Addressed s dest →
      (15 < b.toNat → exec (.engageNow dest [b]) s = .next (answered 0x43 dest .outOfRange [] s')) ∧
      (b = 0 → out → exec (.engageNow dest [b]) s = .next (answered 0x43 dest .ok [] s')) ∧
      (b = 0 → ¬ out → ∃ t, exec (.engageNow dest [b]) s = .next (answered 0x43 dest .ok [] t) ∧
        LeftIncident .engageNow 0 s' t) ∧
      (1 ≤ b.toNat → b.toNat ≤ 15 → ∃ t, exec (.engageNow dest [b]) s = .next (answered 0x43 dest .ok [] t) ∧
        Engaged b.toNat .engageNow 0 s' t) ∧
      (b = 0 → out → exec (.engage dest [b]) s = .next (answered 0x42 dest .ok [] s')) ∧
      (b = 0 → ¬ out → ∃ t, exec (.engage dest [b]) s = .next (answered 0x42 dest .ok [] t) ∧
        LeftIncident .engage 0 s' t) ∧
      (∀ a, b ≠ 0 → s.modes.armed = some a → a.tag = b.toNat → 1 ≤ a.scenario → ∃ t,
        exec (.engage dest [b]) s = .next (answered 0x42 dest .ok [] t) ∧ Engaged a.scenario .engage b.toNat s' t) ∧
      (b ≠ 0 → (∀ a, s.modes.armed = some a → a.tag ≠ b.toNat) →
        exec (.engage dest [b]) s = .next (answered 0x42 dest .refused [] (report 0
          (.engageMissed b.toNat ((s.modes.armed.map (·.tag)).getD 0) ((s.modes.armed.map (·.scenario)).getD 0)) s')))) ∧
    (s.line.station ≠ none →
      (b = 0 → out → exec (.engage broadcast [b]) s = .next s') ∧
      (b = 0 → ¬ out → ∃ t, exec (.engage broadcast [b]) s = .next t ∧ LeftIncident .engage 0 s' t) ∧
      (∀ a, b ≠ 0 → s.modes.armed = some a → a.tag = b.toNat → 1 ≤ a.scenario → ∃ t,
        exec (.engage broadcast [b]) s = .next t ∧ Engaged a.scenario .engage b.toNat s' t) ∧
      (b ≠ 0 → (∀ a, s.modes.armed = some a → a.tag ≠ b.toNat) →
        exec (.engage broadcast [b]) s = .next (report 0
          (.engageMissed b.toNat ((s.modes.armed.map (·.tag)).getD 0) ((s.modes.armed.map (·.scenario)).getD 0)) s'))) ∧
    (s.line.station = none → exec (.engage broadcast [b]) s = .next s')

/-- ARM and DISARM, addressed and broadcast (R142). -/
def Obligations.ArmAndDisarm : Prop :=
  ∀ (s : State) (dest n tag : Byte), Quiet s →
    let s' := dispatching s
    let legal := 1 ≤ n.toNat ∧ n.toNat ≤ 15 ∧ tag ≠ 0
    let armed := s'.withModes { s'.modes with armed := some { scenario := n.toNat, tag := tag.toNat } }
    let disarmed := s'.withModes { s'.modes with armed := none }
    (Addressed s dest →
      (legal → exec (.arm dest [n, tag]) s = .next (answered 0x40 dest .ok [] armed)) ∧
      (¬ legal → exec (.arm dest [n, tag]) s = .next (answered 0x40 dest .outOfRange [] s')) ∧
      exec (.disarm dest []) s = .next (answered 0x41 dest .ok [] disarmed)) ∧
    (s.line.station ≠ none →
      (legal → exec (.arm broadcast [n, tag]) s = .next armed) ∧
      (¬ legal → exec (.arm broadcast [n, tag]) s = .next s') ∧
      exec (.disarm broadcast []) s = .next disarmed) ∧
    (s.line.station = none →
      exec (.arm broadcast [n, tag]) s = .next s' ∧ exec (.disarm broadcast []) s = .next s')

/-- FAN_SET gives a fan its MANUAL setpoint, which acts by the state of the fan, and FAN_CLEAR a locked fan another chance; the
refusals (R42, R44, R47 to R51, R53, R55, R57, R59, R60, R73, R80; the single DRIVE_FAULT report of a fan that trips at its
entry to AWAIT_GRANT: log entry 29). -/
def Obligations.FanRequestsSetAndClear : Prop :=
  ∀ (s : State) (dest u : Byte) (f : Fin 4), Ready s dest → u.toNat = f.val + 9 →
    let x := s.fan f
    let s' := dispatching s
    (∀ (dir hi lo : Byte), 2 ≤ dir.toNat →
      exec (.fanSet dest [u, dir, hi, lo]) s = .next (answered 0x31 dest .badParam [] s')) ∧
    (∀ (D : Dir) (hi lo : Byte), s.modes.mode ≠ .manual →
      exec (.fanSet dest [u, byteOf (dirCode D), hi, lo]) s = .next (answered 0x31 dest .refused [] s')) ∧
    (∀ (D : Dir) (hi lo : Byte), s.modes.mode = .manual →
      (let wish : Target := { dir := D, speed := min (hi.toNat * 256 + lo.toNat) 1000 }
       ∃ t, exec (.fanSet dest [u, byteOf (dirCode D), hi, lo]) s =
          .next (answered 0x31 dest .ok [byteOf (wish.speed / 256), byteOf wish.speed] t) ∧
        FanFrame s' t ∧ OtherFans f s t ∧ (t.fan f).setpoint = some wish ∧ (t.fan f).modeTarget = wish ∧
        (t.fan f).target = composedTarget t f ∧
        (s.ctl.pressFan ≠ some f → Unserved s f → x.state = .running → wish.speed ≠ 0 → D = x.latched →
          t.fan f = { x with setpoint := some wish, modeTarget := wish, target := wish }) ∧
        (s.ctl.pressFan ≠ some f → wish ≠ x.target →
          (let y : Fan := { x with setpoint := some wish, modeTarget := wish, target := wish }
           let stops := wish.speed = 0 ∨ D ≠ x.latched
           let started := f ∈ s.arbiter.holders ∧ x.reference = wish.speed * 10 ∧ AtSpeed (s.fanCfg f) x
           let permitted := s.stop.asserted = false ∧ x.held = false
           (x.state = .running ∨ x.state = .starting → stops → x.reference ≠ 0 →
             t.fan f = { y with state := .stopping, startTimer := none, verifyTimer := none, creditWait := false,
                                suspended := false } ∧
             FirstReport s t (fanUnit f) (.fanState .stopping .target)) ∧
           (x.state = .running ∨ x.state = .starting → stops → x.reference = 0 →
             t.fan f = y.afterCut ∧ FirstReport s t (fanUnit f) (.fanState .coasting .target)) ∧
           (x.state = .starting → ¬ stops → started →
             t.fan f = y.afterStart ∧ Unserved t f ∧ FirstReport s t (fanUnit f) (.fanState .running .startDone)) ∧
           (x.state = .starting → ¬ stops → ¬ started → NoRequest s → t.fan f = y) ∧
           (x.state = .stopping → ¬ stops → Unserved s f →
             t.fan f = { y with state := .running, verifyTimer := some 0, stallNoted := false } ∧
             FirstReport s t (fanUnit f) (.fanState .running .target)) ∧
           (x.state = .stopping → stops → Unserved s f → t.fan f = y) ∧
           (x.state = .awaitGrant → wish.speed = 0 →
             t.fan f = { y with state := .off, reference := 0, startTimer := none, verifyTimer := none, creditWait := false,
                                suspended := false } ∧ Unserved t f ∧
             FirstReport s t (fanUnit f) (.fanState .off .target)) ∧
           (x.state = .awaitGrant → wish.speed ≠ 0 → (t.fan f).latched = D ∧ (t.fan f).target = wish ∧
             ((t.fan f).state = .awaitGrant ∨ (t.fan f).state = .starting)) ∧
           (x.state = .awaitGrant → wish.speed ≠ 0 → Unserved s f → t.fan f = { y with latched := D }) ∧
           (x.state = .off → wish.speed = 0 ∨ ¬ permitted → Unserved s f → t.fan f = y) ∧
           (x.state = .off → wish.speed ≠ 0 → permitted → Unserved s f →
             (x.faultInput = true → (t.fan f).state = .tripped ∧ (t.fan f).lastTrip = .driveFault ∧
               FirstReport s t (fanUnit f) (.fanState .tripped .driveFault)) ∧
             (x.faultInput = false → (t.fan f).latched = D ∧
               FirstReport s t (fanUnit f) (.fanState .awaitGrant .target)) ∧
             (x.faultInput = false → x.credits = 0 → (t.fan f).state = .awaitGrant ∧ (t.fan f).creditWait = true) ∧
             (x.faultInput = false → x.credits ≠ 0 → JoinsWaiting f x.credits s t)) ∧
           (x.state = .coasting ∨ x.state = .tripped ∨ x.state = .lockedOut ∨ x.state = .inactive → Unserved s f →
             t.fan f = y))))) ∧
    (x.state ≠ .lockedOut → exec (.fanClear dest [u]) s = .next (answered 0x32 dest .refused [] s')) ∧
    (x.state = .lockedOut → Unserved s f → ∃ t, exec (.fanClear dest [u]) s = .next (answered 0x32 dest .ok [] t) ∧
      FanFrame s' t ∧ OtherFans f s t ∧ (t.fan f).lockoutMemory = false ∧ (t.fan f).target = x.target ∧
      (let wish := x.target.speed ≠ 0 ∧ s.stop.asserted = false ∧ x.held = false
       (¬ wish → (t.fan f).state = .off ∧ (t.fan f).tripCount = 0 ∧ (t.fan f).lastTrip = .noTrip ∧
        FirstReport s t (fanUnit f) (.fanState .off .clear)) ∧
       (wish → x.faultInput = true → (t.fan f).state = .tripped ∧ (t.fan f).tripCount = 1 ∧
        (t.fan f).lastTrip = .driveFault ∧ FirstReport s t (fanUnit f) (.fanState .tripped .driveFault)) ∧
       (wish → x.faultInput = false → ((t.fan f).state = .awaitGrant ∨ (t.fan f).state = .starting) ∧
        (t.fan f).tripCount = 0 ∧ (t.fan f).latched = x.target.dir ∧
        FirstReport s t (fanUnit f) (.fanState .awaitGrant .clear)) ∧
       (wish → x.faultInput = false → s.modes.mode = .incident ∨ x.credits ≠ 0 → JoinsWaiting f x.credits s t) ∧
       (wish → x.faultInput = false → s.modes.mode ≠ .incident → x.credits = 0 →
        (t.fan f).state = .awaitGrant ∧ (t.fan f).creditWait = true)))

/-! ### The niche line -/

/-- The receiver and the pending reply at single characters. In HUNT a 0xB6 starts a frame and cancels a pending reply, and any
other character is ignored; in RECEIVING each is appended, a length byte above 96 discards the frame, and the last CRC byte
completes it, which is then the frame's command taken in HUNT; a framing error or a gap discards the frame. From the first
character of a reply to its last the driver is enabled, no character is taken and the reply is not cancelled; the last ends it.
Each end of a RESET's reply is the warm reset, the pins at its end free (R157, R159, R166; log entries 14, 16, 17 and 21).
RX_GAP_TIMEOUT discards the frame whatever the gap has counted: log entry 26; an end of the reply without a beginning is its
whole transmission: log entry 34. -/
def Obligations.ReceiverAndReplyFollowTheCharacters : Prop :=
  ∀ s : State,
    let recv : Receiver → Option Nat → State := fun r gap => s.withLine { s.line with receiver := r, rxGap := gap }
    let begun := s.withLine { s.line with reply := none, transmitting := false, receiver := .receiving [0xB6], rxGap := some 0 }
    exec .rxGapTimeout s = .next (recv .hunt none) ∧
    (s.line.transmitting = false → exec .framingError s = .next (recv .hunt none)) ∧
    (s.line.transmitting = true → exec .framingError s = .next s ∧ exec .replyCancelled s = .next s ∧
      ∀ c, exec (.startByte c) s = .next s) ∧
    (∀ bytes c, s.line.transmitting = false → s.line.receiver = .receiving bytes →
      (let frame := bytes ++ [c]
       let tooLong := frame.length = 5 ∧ 96 < c.toNat
       let whole := frame.length = 7 + (frame.getD 4 0).toNat
       (tooLong → exec (.startByte c) s = .next (recv .hunt none)) ∧
       (¬ tooLong → ¬ whole → exec (.startByte c) s = .next (recv (.receiving frame) (some 0))) ∧
       (¬ tooLong → whole → frameCommand frame = none → exec (.startByte c) s = .next (recv .hunt none)) ∧
       (∀ i, ¬ tooLong → whole → frameCommand frame = some i → exec (.startByte c) s = exec i (recv .hunt none)))) ∧
    (∀ c, s.line.transmitting = false → s.line.receiver = .hunt → c ≠ 0xB6 → exec (.startByte c) s = .next s) ∧
    (s.line.transmitting = false → s.line.receiver = .hunt → s.line.reply = none →
      exec (.startByte 0xB6) s = .next (recv (.receiving [0xB6]) (some 0))) ∧
    (s.line.reply = none → exec .replyCancelled s = .next s ∧ ∀ phase, exec (.replySent phase) s = .next s) ∧
    (∀ frame, s.line.reply = some frame →
      exec (.replySent .begins) s = .next (s.withLine { s.line with transmitting := true })) ∧
    (∀ frame, s.line.reply = some frame → s.line.resetRequested = false →
      (s.line.transmitting = false → s.line.receiver = .hunt → exec (.startByte 0xB6) s = .next begun) ∧
      (s.line.transmitting = false → exec .replyCancelled s = .next begun) ∧
      exec (.replySent .ends) s = .next (s.withLine { s.line with reply := none, transmitting := false, sent := some frame })) ∧
    (∀ frame, s.line.reply = some frame → s.line.resetRequested = true → ∃ pins t,
      exec (.warmReset pins) { s with choice := s.choice + 1 } = .next t ∧
      (s.line.transmitting = false → exec .replyCancelled s = .next t) ∧
      (s.line.transmitting = false → s.line.receiver = .hunt → exec (.startByte 0xB6) s = .next t) ∧
      exec (.replySent .ends) s = .next (t.withLine { t.line with sent := some frame }))

/-- What a whole frame does before the meaning of its kind: one that is discarded, or is for another station, cancels a pending
reply and nothing more; one for the controller restarts the link timer and restores a lost line; a RESET's reply cancelled is
the warm reset, the pins at its end free; wrong lengths, unknown kinds and bad units are answered so, and a broadcast not in the
catalogue has no other effect; while the controller transmits no frame is taken (R145, R157, R158, R159, R166; log entries 14,
17, 21 and 31). -/
def Obligations.FramesAreCheckedAndDispatched : Prop :=
  ∀ s : State,
    let idle := s.withLine { s.line with reply := none, transmitting := false, receiver := .hunt, rxGap := none }
    let resets := fun i => ∃ pins t, exec (.warmReset pins) { s with choice := s.choice + 1 } = .next t ∧ exec i s = .next t
    (s.line.transmitting = true → ∀ flaw, exec (.invalidFrame flaw) s = .next s) ∧
    (s.line.transmitting = false → s.line.resetRequested = false → ∀ flaw, exec (.invalidFrame flaw) s = .next idle) ∧
    (s.line.transmitting = false → s.line.resetRequested = true → ∀ flaw, resets (.invalidFrame flaw)) ∧
    ∀ (i : Instr) (kind dest : Byte) (payload : List Byte), requestParts i = some (kind, dest, payload) →
      i.wellFormed = true →
      (s.line.transmitting = true → exec i s = .next s) ∧
      (s.line.transmitting = false → s.line.resetRequested = true → resets i) ∧
      (s.line.transmitting = false → s.line.resetRequested = false → dest ≠ broadcast →
        s.line.station ≠ some dest.toNat → exec i s = .next idle) ∧
      (s.line.transmitting = false → s.line.resetRequested = false → ∃ t, exec i s = .next t ∧ exec i idle = .next t) ∧
      (Quiet s → dest = broadcast → takenAsBroadcast kind = false → exec i s = .next (dispatching s)) ∧
      (s.line.transmitting = false → s.line.reply = none → s.line.resetRequested = false → s.modes.lineLost = true →
        (dest = broadcast ∨ s.line.station = some dest.toNat) → ∃ t, exec i s = .next t ∧
          exec i (report 0 (.link true) (s.withModes { s.modes with lineLost := false })) = .next t) ∧
      (Ready s dest → (∀ n, requestLength kind = some n → payload.length ≠ n →
          exec i s = .next (answered kind dest .badLength [] (dispatching s))) ∧
        (i = .unknownKind dest kind payload →
          exec i s = .next (answered kind dest .unknownKind [] (dispatching s))) ∧
        (∀ lo hi u, requestLength kind = some payload.length → unitRange kind = some (lo, hi) →
          payload.head? = some u → (u.toNat < lo ∨ hi < u.toNat) →
          exec i s = .next (answered kind dest .badUnit [] (dispatching s))))

/-- Enumeration: the four broadcasts, and their refusal where they are addressed to the controller (R158, R160, R161, R162,
R163). -/
def Obligations.EnumerationGivesAStation : Prop :=
  ∀ s : State, Quiet s →
    let s' := dispatching s
    let station : Nat → State → State := fun n t =>
      { t with store := { t.store with working := { t.store.working with
        controller := { t.store.working.controller with enumStation := n } } } }
    (∀ scope : Byte,
      (s.line.source = .strapped ∨ 2 ≤ scope.toNat → exec (.enumStart broadcast [scope]) s = .next s') ∧
      (s.line.source = .unassigned → scope.toNat < 2 → exec (.enumStart broadcast [scope]) s = .next
        (s'.withLine { s'.line with enumState := .isolating })) ∧
      (s.line.source = .enumerated → scope = 1 → s.store.lockLevel < 3 →
        exec (.enumStart broadcast [scope]) s = .next ((station 0 s').withLine { s'.line with
          station := none, source := .unassigned, enumState := .isolating })) ∧
      (s.line.source = .enumerated → scope = 0 ∨ 3 ≤ s.store.lockLevel →
        exec (.enumStart broadcast [scope]) s = .next s')) ∧
    (∀ (k : Byte) (probed : List Byte), probed.length = 6 →
      (let heard := 1 ≤ k.toNat ∧ k.toNat ≤ 48 ∧ s.line.enumState = .isolating ∧
        s.line.serial.toNat / 2 ^ (48 - k.toNat) = ofBytes probed / 2 ^ (48 - k.toNat)
       (heard → exec (.enumProbe broadcast (k :: probed)) s = .next
        (s'.withLine { s'.line with reply := some (frameBytes 0x00 0xFE 0x82 [0x00]) })) ∧
       (¬ heard → exec (.enumProbe broadcast (k :: probed)) s = .next s'))) ∧
    (∀ (serial : List Byte) (n : Byte), serial.length = 6 →
      (let taken := 1 ≤ n.toNat ∧ n.toNat ≤ 32 ∧ s.line.enumState = .isolating ∧
        ofBytes serial = s.line.serial.toNat ∧ s.store.lockLevel < 3
       (taken → exec (.enumAssign broadcast (serial ++ [n])) s = .next ((station n.toNat s').withLine { s'.line with
        station := some n.toNat, source := .enumerated, enumState := .idle
        reply := some (frameBytes 0x00 n 0x83 [0x00, n]) })) ∧
       (¬ taken → exec (.enumAssign broadcast (serial ++ [n])) s = .next s'))) ∧
    exec (.enumEnd broadcast []) s = .next (s'.withLine { s'.line with enumState := .idle }) ∧
    ∀ (i : Instr) (kind dest : Byte) (payload : List Byte), Addressed s dest →
      requestParts i = some (kind, dest, payload) → i.wellFormed = true → kind.toNat ≤ 4 →
      requestLength kind = some payload.length →
      exec i s = .next (answered kind dest .refused [] s')

/-- The reading requests answer with the blocks of the Formats section, and change nothing but LIMITED, which READ_CHANNEL
clears (R12, R21, R38, R61, R71, R91, R114, R129, R164, R165). -/
def Obligations.ReadsAnswerWithTheirBlocks : Prop :=
  ∀ (s : State) (dest : Byte), Ready s dest →
    let s' := dispatching s
    let bit : Bool → Nat → Nat := fun b n => if b then 2 ^ n else 0
    let num : Nat → List Byte := fun n => [byteOf (n / 256), byteOf n]
    let int : Int → List Byte := fun i => num (i % 65536).toNat
    exec (.identify dest []) s = .next (answered 0x10 dest .ok (beBytes 6 s.line.serial.toNat ++
      [0x04, 0x60, 0x01, byteOf s.line.strap,
       byteOf (match s.line.bitRate with
         | .b9600 => 0
         | .b19200 => 1
         | .b38400 => 2
         | .b115200 => 3),
       byteOf (sourceCode s.line.source),
       byteOf s.store.lockLevel]) s') ∧
    exec (.status dest []) s = .next (answered 0x11 dest .ok
      [byteOf (modeCode s.modes.mode), byteOf s.modes.engaged, byteOf ((s.modes.armed.map (·.tag)).getD 0),
       byteOf s.demand.stage, byteOf s.demand.floor,
       byteOf (bit s.modes.lineLost 0 + bit s.stop.asserted 1 + bit s.escape.asserted 2 + bit s.maint.asserted 3),
       byteOf s.reports.records.length, byteOf (bit s.reports.overflow 0),
       byteOf (channelStateCode (s.channel 0).state), byteOf (channelStateCode (s.channel 1).state),
       byteOf (channelStateCode (s.channel 2).state), byteOf (channelStateCode (s.channel 3).state),
       byteOf (channelStateCode (s.channel 4).state), byteOf (channelStateCode (s.channel 5).state),
       byteOf (channelStateCode (s.channel 6).state), byteOf (channelStateCode (s.channel 7).state),
       byteOf (fanStateCode (s.fan 0).state), byteOf (fanStateCode (s.fan 1).state),
       byteOf (fanStateCode (s.fan 2).state), byteOf (fanStateCode (s.fan 3).state),
       byteOf (doorStateCode (s.door 0).state), byteOf (doorStateCode (s.door 1).state)] s') ∧
    (∀ (u : Byte) (c : Fin 8), u.toNat = c.val + 1 →
      (let x := s.channel c
       exec (.readChannel dest [u]) s = .next (answered 0x12 dest .ok
        ([u, byteOf (channelStateCode x.state), byteOf (kindCode x.inForce.kind), byteOf x.inForce.window] ++
          num x.rawCode ++ int x.calibrated ++ int (x.average.getD 0) ++
          [byteOf (bit x.average.isSome 0 + bit x.limited 1), byteOf x.fill, byteOf x.faultRun, byteOf x.level,
           byteOf x.upCount, byteOf x.downCount]) (s'.withChannel c { x with limited := false })))) ∧
    (∀ (u : Byte) (f : Fin 4), u.toNat = f.val + 9 →
      (let x := s.fan f
       exec (.readFan dest [u]) s = .next (answered 0x13 dest .ok
        ([u, byteOf (fanStateCode x.state),
          byteOf (bit x.creditWait 0 + bit x.suspended 1 + bit x.held 2 + bit x.faultInput 3),
          byteOf (dirCode x.latched), byteOf (dirCode x.target.dir)] ++
          num x.target.speed ++ num x.reference ++ num x.tach.rpm ++ beBytes 4 (x.tach.lastPeriod.getD 0) ++
          [byteOf x.credits] ++ num (x.creditTimer.getD 0 / 1000) ++
          [byteOf x.tripCount, byteOf (tripCauseCode x.lastTrip)]) s'))) ∧
    (∀ (u : Byte) (d : Fin 2), u.toNat = d.val + 13 →
      (let x := s.door d
       let travel : Option Travel → List Byte := fun r => match r with
        | none => [0, 0, 0, 0, 0]
        | some r => [byteOf (1 + bit (r.dir == .toClose) 1 + bit r.forced 2), byteOf (travelModeCode r.mode),
            byteOf (reasonCode r.reason)] ++ (match r.target with
              | some p => int p
              | none => [0xFF, 0xFF])
       exec (.readDoor dest [u]) s = .next (answered 0x14 dest .ok
        ([u, byteOf (doorStateCode x.state)] ++ int x.position ++
          [byteOf (bit x.homed 0 + bit (x.state == .opening) 1 + bit (x.state == .closing) 2 + bit x.creep 3 +
            bit (x.state == .closedLocked) 4 + bit x.unlockPolicy 5 + bit x.recloseSuspended 6),
           byteOf (bit x.inputs.openStop 0 + bit x.inputs.closedStop 1 + bit x.inputs.safetyEdge 2 +
            bit x.inputs.presence 3 + bit x.inputs.tunnelButton 4 + bit x.inputs.passageButton 5 +
            bit x.inputs.serviceOpen 6 + bit x.inputs.serviceClose 7),
           byteOf (bit x.escape.tunnelButton 0 + bit x.escape.passageButton 1 + bit x.escape.supervisory 2 +
            bit x.escape.escapeLine 3 + bit x.escape.scenario 4)] ++
          travel x.travel ++ num (x.travelTimer.getD 0 / 100) ++ travel x.slot ++ [byteOf x.retry] ++
          num (x.holdOpen.getD 0 / 1000) ++ num (x.reliefTimer.getD 0 / 100) ++
          [byteOf ((x.reliefChannel.map (·.val)).getD 255)]) s')))

/-- POLL removes the oldest record, clears the marker with the last, and answers the count that remains, the marker as it stood
and the record; on an empty queue it changes nothing (R171). -/
def Obligations.PollDrainsTheQueue : Prop :=
  ∀ (s : State) (dest : Byte), Ready s dest →
    (s.reports.records = [] →
      exec (.poll dest []) s = .next (answered 0x60 dest .ok [0, 0] (dispatching s))) ∧
    ∀ (r : Report) (rest : List Report), s.reports.records = r :: rest → ∃ t data,
      exec (.poll dest []) s = .next (answered 0x60 dest .ok
        ([byteOf rest.length, if s.reports.overflow then 1 else 0] ++ beBytes 4 r.stamp.toNat ++
          [byteOf r.unit, byteOf (reportKind r.data), byteOf data.length] ++ data) t) ∧
      data = reportDataBytes r.data ∧
      t = { dispatching s with reports := { s.reports with
        records := rest, overflow := if rest = [] then false else s.reports.overflow } }

/-! ### Settings -/

/-- SET_PARAM by its checks in their order; an accepted write replaces the one working value and answers the value written,
which GET_PARAM then reads, and acts at once in its block; the value already held changes nothing. A value of a code-valued
parameter that is not among its codes is BAD_PARAM, one outside its range, or against the working settings of its unit,
OUT_OF_RANGE, and any other is accepted; an accepted kind clamps the thresholds and keeps the contribution of a gas kind alone
(R18, R62, R87, R89, R107, R109, R115, R127, R145, R155, R167, R168, R173, R174; a closed door is not judged anew at a write of
the tolerance: log entry 46; the standstill time at a write of the pulses per rev: log entry 43; the DEMAND report before those
of the fans: log entry 42; a travel goes on under a safety edge that has stayed asserted: log entry 18; the value already held,
checked like any other: log entry 35). -/
def Obligations.ParametersAreCheckedAndHeld : Prop :=
  ∀ (s : State) (dest u i hi lo : Byte) (unit : UnitName), Ready s dest → unitOf u.toNat = some unit →
    let v := hi.toNat * 256 + lo.toNat
    let c := Instr.setParam dest [u, i, hi, lo]
    let s' := dispatching s
    let refuses := fun code => exec c s = .next (answered 0x21 dest code [] s')
    let free := lockLevelOf unit i.toNat > s.store.lockLevel
    let wrote := s.store.working.write unit i.toNat v
    let busy := unit = .controller ∧ i = 1 ∧ s.arbiter.holders ≠ []
    (i.toNat < indexCount unit → exec (.getParam dest [u, i]) s = .next (answered 0x20 dest .ok
      [u, i, byteOf (s.store.working.value unit i.toNat / 256), byteOf (s.store.working.value unit i.toNat)] s')) ∧
    (indexCount unit ≤ i.toNat → refuses .badParam ∧
      exec (.getParam dest [u, i]) s = .next (answered 0x20 dest .badParam [] s')) ∧
    (i.toNat < indexCount unit → ¬ free → refuses .locked) ∧
    (i.toNat < indexCount unit → free → ¬ AmongCodes unit i.toNat v → wrote = .error .badParam ∧ refuses .badParam) ∧
    (i.toNat < indexCount unit → free → AmongCodes unit i.toNat v → ¬ InItsRange s.store.working unit i.toNat v →
      wrote = .error .outOfRange ∧ refuses .outOfRange) ∧
    (i.toNat < indexCount unit → AmongCodes unit i.toNat v → InItsRange s.store.working unit i.toNat v →
      ∃ p, wrote = .ok p) ∧
    (∀ p, i.toNat < indexCount unit → free → wrote = .ok p →
      (busy → refuses .busy) ∧
      (¬ busy → p = s.store.working → exec c s = .next (answered 0x21 dest .ok [u, i, hi, lo] s')) ∧
      (¬ busy → ∃ t, exec c s = .next (answered 0x21 dest .ok [u, i, hi, lo] t) ∧
        t.store = { s.store with working := p } ∧ t.line.strap = s.line.strap ∧ t.pending = s.pending ∧
        (¬ (unit = .controller ∧ i = 5) → BlockFrame { s' with store := t.store } t) ∧
        (p ≠ s.store.working → WriteActs unit i.toNat v s.store.working (s'.withSettings p) t)) ∧
      p.value unit i.toNat = v ∧ p.scenarios = s.store.working.scenarios ∧
      (∀ ch k, unit = .channel ch → i = 0 → kindCode k = v →
        p.channels[ch] = kindTaken s.store.working.channels[ch] k) ∧
      (∀ ch : Fin 8, p.channels[ch].active = s.store.working.channels[ch].active) ∧
      (∀ f : Fin 4, p.fans[f].active = s.store.working.fans[f].active) ∧
      (∀ d : Fin 2, p.doors[d].active = s.store.working.doors[d].active) ∧
      ∀ unit' j, (unit' ≠ unit ∨ (j ≠ i.toNat ∧ ¬ ∃ ch, unit = .channel ch ∧ i = 0)) → j < indexCount unit' →
        p.value unit' j = s.store.working.value unit' j)

/-- SET_SCENARIO takes the record that GET_SCENARIO sends, whole and in its order, at lock levels below 2, its speeds clamped to
1000; a malformed length is BAD_LENGTH, a number outside 1 to 15 OUT_OF_RANGE, an entry for no fan, no door, no direction or no
policy, or two entries for one fan or door, BAD_PARAM; GET_SCENARIO of 0 answers the record in force (R133, R134, R135). -/
def Obligations.ScenariosAreStoredWhole : Prop :=
  ∀ (s : State) (dest : Byte), Ready s dest →
    let s' := dispatching s
    let entries : ScenarioRecord → List Byte := fun r =>
      [byteOf r.fans.length, byteOf r.doors.length] ++
        r.fans.flatMap (fun e => [byteOf e.fan.val, byteOf (dirCode e.dir), byteOf (e.speed / 256), byteOf e.speed,
          byteOf e.delay]) ++
        r.doors.flatMap fun e => [byteOf e.door.val, byteOf (doorPolicyCode e.policy)]
    (∀ (k : Fin 15) (r : ScenarioRecord),
      (let clamped : ScenarioRecord := { r with fans := r.fans.map fun e => { e with speed := min e.speed 1000 } }
       clamped.inRange = true → (∀ e ∈ r.fans, e.speed ≤ 65535) → s.store.lockLevel < 2 →
       exec (.setScenario dest (byteOf (k.val + 1) :: entries r)) s = .next (answered 0x25 dest .ok [] { s' with
        store := { s.store with working := { s.store.working with
          scenarios := s.store.working.scenarios.set k clamped } } }))) ∧
    (∀ payload : List Byte, payload.length < 3 →
      exec (.setScenario dest payload) s = .next (answered 0x25 dest .badLength [] s')) ∧
    (∀ (n f d : Byte) (fans : List (Byte × Byte × Byte × Byte × Byte)) (doors : List (Byte × Byte)),
      fans.length = f.toNat → doors.length = d.toNat → f.toNat ≤ 4 → d.toNat ≤ 2 → s.store.lockLevel < 2 →
      1 ≤ n.toNat → n.toNat ≤ 15 →
      (∃ e ∈ fans, 4 ≤ e.1.toNat ∨ 2 ≤ e.2.1.toNat) ∨ (∃ e ∈ doors, 2 ≤ e.1.toNat ∨ 3 ≤ e.2.toNat) ∨
        ¬ (fans.map (·.1)).Nodup ∨ ¬ (doors.map (·.1)).Nodup →
      exec (.setScenario dest (n :: f :: d :: ((fans.flatMap fun (fan, dir, hi, lo, delay) => [fan, dir, hi, lo, delay]) ++
        doors.flatMap fun (door, policy) => [door, policy]))) s = .next (answered 0x25 dest .badParam [] s')) ∧
    (∀ (n : Byte) (r : ScenarioRecord), r.inRange = true → 2 ≤ s.store.lockLevel →
      exec (.setScenario dest (n :: entries r)) s = .next (answered 0x25 dest .locked [] s')) ∧
    (∀ (n : Byte) (r : ScenarioRecord), r.inRange = true → s.store.lockLevel < 2 → n = 0 ∨ 15 < n.toNat →
      exec (.setScenario dest (n :: entries r)) s = .next (answered 0x25 dest .outOfRange [] s')) ∧
    (∀ (n f d : Byte) (rest : List Byte), 4 < f.toNat ∨ 2 < d.toNat ∨ rest.length ≠ 5 * f.toNat + 2 * d.toNat →
      exec (.setScenario dest (n :: f :: d :: rest)) s = .next (answered 0x25 dest .badLength [] s')) ∧
    (∀ k : Fin 15, exec (.getScenario dest [byteOf (k.val + 1)]) s = .next
      (answered 0x26 dest .ok (byteOf (k.val + 1) :: entries s.store.working.scenarios[k]) s')) ∧
    exec (.getScenario dest [0]) s = .next (answered 0x26 dest .ok
      (byteOf s.modes.engaged :: entries (s.modes.record.getD { fans := [], doors := [] })) s') ∧
    ∀ n : Byte, 15 < n.toNat → exec (.getScenario dest [n]) s = .next (answered 0x26 dest .outOfRange [] s')

/-- SAVE and the end of its write, LOCK, and RESET (R166, R175, R176; what a failed write leaves is free: log entry 10). -/
def Obligations.SaveLockAndReset : Prop :=
  ∀ s : State,
    (∀ agrees, s.store.snapshot = none → exec (.saveComplete agrees) s = .next s) ∧
    (∀ p, s.store.snapshot = some p →
      exec (.saveComplete true) s = .next { s with
        store := { s.store with stored := p, checkError := 0, snapshot := none }
        reports := s.reports.arrive 0 (.store false)
        choice := s.choice + 1 } ∧
      ∃ t, exec (.saveComplete false) s = .next t ∧
        t = { s with store := { s.store with stored := t.store.stored, checkError := t.store.checkError, snapshot := none }
                     reports := s.reports.arrive 0 (.store true)
                     choice := s.choice + 1 }) ∧
    ∀ dest n : Byte, Ready s dest →
      let s' := dispatching s
      (s.store.snapshot ≠ none → exec (.save dest []) s = .next (answered 0x22 dest .busy [] s')) ∧
      (s.store.snapshot = none → exec (.save dest []) s = .next (answered 0x22 dest .ok []
        { s' with store := { s.store with snapshot := some s.store.working } })) ∧
      (3 < n.toNat → exec (.lock dest [n]) s = .next (answered 0x23 dest .outOfRange [] s')) ∧
      (n.toNat ≤ 3 → n.toNat < s.store.lockLevel →
        exec (.lock dest [n]) s = .next (answered 0x23 dest .refused [] s')) ∧
      (n.toNat ≤ 3 → s.store.lockLevel ≤ n.toNat →
        exec (.lock dest [n]) s = .next (answered 0x23 dest .ok [n] { s' with
          store := { s.store with lockLevel := n.toNat } })) ∧
      (s.modes.mode = .incident → exec (.reset dest []) s = .next (answered 0x70 dest .refused [] s')) ∧
      (s.modes.mode ≠ .incident → exec (.reset dest []) s = .next (answered 0x70 dest .ok []
        (s'.withLine { s'.line with resetRequested := true })))

/-- SET_ACTIVE: its checks, the flag set for the unit, and what a channel, a fan and a door do when they are switched off and on
and what each leaves as it was (R19, R33, R63, R116, R117, R177; an emptied window slot reads 0: log entry 12). -/
def Obligations.SetActiveSwitchesTheUnit : Prop :=
  ∀ (s : State) (dest u on : Byte), Ready s dest → 1 ≤ u.toNat → u.toNat ≤ 14 →
    let c := Instr.setActive dest [u, on]
    let s' := dispatching s
    (3 ≤ s.store.lockLevel → exec c s = .next (answered 0x24 dest .locked [] s')) ∧
    (s.store.lockLevel < 3 → 1 < on.toNat → exec c s = .next (answered 0x24 dest .badParam [] s')) ∧
    (s.store.lockLevel < 3 → on.toNat ≤ 1 → ∃ t, exec c s = .next (answered 0x24 dest .ok [] t) ∧
      (∀ ch, u.toNat = channelUnit ch →
        (let x := s.channel ch
         let p := s.channelCfg ch
         t.store = { s.store with working := { s.store.working with
          channels := s.store.working.channels.set ch { p with active := on == 1 } } } ∧ OtherChannels ch s t ∧
         SampleFrame { s' with store := t.store } t ∧ t.doors = s.doors ∧ t.demand.floor = s.demand.floor ∧
         (s.modes.mode ≠ .auto → t.fans = s.fans ∧ t.arbiter = s.arbiter) ∧
         ((x.state = .inactive ↔ on ≠ 1) → t.demand = s.demand ∧ t.reports = s.reports) ∧
         (x.state ≠ .inactive → on = 1 → t.channel ch = x) ∧
         (x.state = .inactive → on = 0 → t.channel ch = x) ∧
         (x.state ≠ .inactive → on = 0 → t.channel ch = { x with
          state := .inactive, slots := List.replicate x.inForce.window 0, writeIndex := 0, fill := 0, sum := 0,
          average := none, faultRun := 0, limited := false, level := 0, upCount := 0, downCount := 0 } ∧
          (x.level ≠ 0 → FirstReport s t (channelUnit ch) (.level 0 none))) ∧
         (x.state = .inactive → on = 1 → t.channel ch = { x with
          state := .warming, slots := List.replicate p.window 0, writeIndex := 0, fill := 0, sum := 0, average := none
          inForce := { kind := p.kind, zero := p.zero, span := p.span, window := p.window }
          level := 0, upCount := 0, downCount := 0 }) ∧
         ((x.state = .inactive ↔ on = 1) → t.demand.stage = demandStage t))) ∧
      (∀ f, u.toNat = fanUnit f →
        (let x := s.fan f
         let coast : Fan := { x with state := .coasting, offTime := 0, standstill := 0 }
         t.store = { s.store with working := { s.store.working with
          fans := s.store.working.fans.set f { s.fanCfg f with active := on == 1 } } } ∧ OtherFans f s t ∧
         FanFrame { s' with store := t.store } t ∧
         (x.state ≠ .inactive → on = 1 → t.fan f = x) ∧ (x.state = .inactive → on = 0 → t.fan f = x) ∧
         (x.state ≠ .inactive → on = 0 → (t.fan f).state = .inactive ∧ (t.fan f).reference = 0 ∧ Unserved t f ∧
          (t.fan f).creditWait = false ∧ (t.fan f).credits = x.credits ∧ (t.fan f).lockoutMemory = x.lockoutMemory) ∧
         (x.state = .inactive → on = 1 → x.lockoutMemory = false → t.fan f = coast) ∧
         (x.state = .inactive → on = 1 → x.lockoutMemory = true →
          (if s.modes.mode = .incident ∧ (engagedEntry s f).isSome = true then
            t.fan f = { coast with lockoutMemory := false, tripCount := 0, lastTrip := .noTrip }
          else t.fan f = { x with state := .lockedOut })))) ∧
      (∀ d, u.toNat = doorUnit d →
        (let x := s.door d
         let cfg := s.doorCfg d
         t.store = { s.store with working := { s.store.working with
          doors := s.store.working.doors.set d { cfg with active := on == 1 } } } ∧ OtherDoors d s t ∧
         DoorFrame { s' with store := t.store } t ∧
         (x.state ≠ .inactive → on = 1 → t.door d = x) ∧ (x.state = .inactive → on = 0 → t.door d = x) ∧
         (x.state ≠ .inactive → on = 0 → (t.door d).state = .inactive ∧ (t.door d).travel = none ∧
          (t.door d).slot = none ∧ (t.door d).escape = EscapeSet.empty ∧ (t.door d).travelTimer = none ∧
          (t.door d).creep = false ∧ (t.door d).recloseSuspended = false ∧ (t.door d).position = x.position ∧
          (t.door d).unlockPolicy = x.unlockPolicy ∧ (t.door d).inputs = x.inputs) ∧
         (x.state = .inactive → on = 1 → s.escape.asserted = false → engagedPolicy s.modes.record d ≠ .openHold →
          (t.door d).retry = cfg.retries ∧
          (x.inputs.closedStop = true → (t.door d).position = 0 ∧ (t.door d).homed = true ∧
            (t.door d).state = restsAfter cfg x .toClose) ∧
          (x.inputs.closedStop = false → (t.door d).homed = false ∧ (t.door d).state = .unhomed ∧
            (t.door d).position = 0)) ∧
         (x.state = .inactive → on = 1 → s.escape.asserted = true → (t.door d).escape.escapeLine = true))))

/-! ### Invariants and whole-machine rules -/

/-- No command stops, touches the queue of waiting commands or the serial, and only a power-on reset lowers the lock level
(R164, R176). -/
def Obligations.EveryCommandAnswersAndKeepsTheQueue : Prop :=
  ∀ (i : Instr) (s : State), ∃ t, exec i s = .next t ∧ t.pending = s.pending ∧ t.line.serial = s.line.serial ∧
    (t.store.lockLevel < s.store.lockLevel → ∃ straps pins, i = .powerOnReset straps pins)

/-- State.reset meets every invariant below (its values are those of R22, R39, R64, R78, R92, R117, R146, R147, R155, R172 and
R178, with the choices of log entries 7, 8 and 9). -/
def Obligations.ResetMeetsTheInvariants : Prop :=
  QueueOk State.reset ∧ WindowsOk State.reset ∧ SettingsOk State.reset ∧ DemandOk State.reset ∧
  ArbiterOk State.reset ∧ ServedOk State.reset ∧ StopOk State.reset ∧ CreditsOk State.reset ∧ LockoutOk State.reset ∧
  TargetsOk State.reset ∧ CapOk State.reset ∧ DoorsOk State.reset ∧ SlotsAsked State.reset

/-- Every window stays in order, its average the rounded mean of the values held, and every setting stays in its range (R13,
R14, R155, R174; that no torn copy out of range has a check value that holds is the model's choice: log entry 10). -/
def Obligations.StepsKeepWindowsAndSettings : Prop :=
  ∀ s t : State, WindowsOk s → SettingsOk s → step s = .next t → WindowsOk t ∧ SettingsOk t

/-- The arbiter holds at most S grants, each for a fan in STARTING, and knows only fans in their states; with STOP asserted
every output is off. Under settings in their ranges it leaves no request that it can serve: none with a slot free, and none of
the pressurisation fan while urgency holds (R40, R79, R80, R81, R83, R84, R90, R148). -/
def Obligations.StepsKeepTheArbiterAndStop : Prop :=
  (∀ s t : State, ArbiterOk s → StopOk s → step s = .next t → ArbiterOk t ∧ StopOk t) ∧
  ∀ s t : State, SettingsOk s → ArbiterOk s → StopOk s → ServedOk s → step s = .next t → ServedOk t

/-- The report queue holds at most 32 records, its marker clear while it is empty; credits stay within their maximum; and in
INCIDENT no fan with an entry is LOCKED_OUT (R59, R88, R136, R170, R171). -/
def Obligations.StepsKeepQueueCreditsAndLockouts : Prop :=
  (∀ s t : State, QueueOk s → step s = .next t → QueueOk t) ∧
  (∀ s t : State, CreditsOk s → step s = .next t → CreditsOk t) ∧
  ∀ s t : State, LockoutOk s → step s = .next t → LockoutOk t

/-- Every fan's target is the one its mode and the doors give it, and a relieving door caps the pressurisation fan (R43 to R46,
R126, R127, R137, R138). -/
def Obligations.StepsKeepTargetsAndCap : Prop :=
  ∀ s t : State, TargetsOk s → CapOk s → step s = .next t → TargetsOk t ∧ CapOk t

/-- The demand stage is the greater of the floor and the highest contributing level; a door has a current travel exactly while
it travels, and its timers and slot agree with its state; the slot holds a record of DOOR_TRAVEL or of a service button only
(R34, R35, R93, R97, R101, R102, R110, R112, R113, R120). -/
def Obligations.StepsKeepDemandAndDoors : Prop :=
  (∀ s t : State, DemandOk s → step s = .next t → DemandOk t) ∧
  (∀ s t : State, DoorsOk s → step s = .next t → DoorsOk t) ∧
  ∀ s t : State, SlotsAsked s → step s = .next t → SlotsAsked t

/-- Reading the frame of a well-formed request gives the request back: no bit of it is dropped (R156, R157, R158). -/
def Obligations.FramesDecodeToTheirRequests : Prop :=
  ∀ (i : Instr) (source : Byte) (bytes : List Byte), i.wellFormed = true → encodeFrame source i = some bytes →
    frameCommand bytes = some i
end

