-- ==== Sys2Proof/Laws/State.lean ====
section
/-! SUPPORT. One lemma for each field of the state under each update of `Machine/Ops.lean`, and for each reading of one
block or of the settings: true by `rfl` where the update does not touch what is read. -/

namespace Sys2Proof.Machine

variable (s : State)

/-! ### `withChannel` -/

@[simp] theorem State.withChannel_channels (c : Fin 8) (x : Channel) : (s.withChannel c x).channels = s.channels.set c x := rfl
@[simp] theorem State.withChannel_demand (c : Fin 8) (x : Channel) : (s.withChannel c x).demand = s.demand := rfl
@[simp] theorem State.withChannel_fans (c : Fin 8) (x : Channel) : (s.withChannel c x).fans = s.fans := rfl
@[simp] theorem State.withChannel_arbiter (c : Fin 8) (x : Channel) : (s.withChannel c x).arbiter = s.arbiter := rfl
@[simp] theorem State.withChannel_doors (c : Fin 8) (x : Channel) : (s.withChannel c x).doors = s.doors := rfl
@[simp] theorem State.withChannel_modes (c : Fin 8) (x : Channel) : (s.withChannel c x).modes = s.modes := rfl
@[simp] theorem State.withChannel_stop (c : Fin 8) (x : Channel) : (s.withChannel c x).stop = s.stop := rfl
@[simp] theorem State.withChannel_escape (c : Fin 8) (x : Channel) : (s.withChannel c x).escape = s.escape := rfl
@[simp] theorem State.withChannel_maint (c : Fin 8) (x : Channel) : (s.withChannel c x).maint = s.maint := rfl
@[simp] theorem State.withChannel_line (c : Fin 8) (x : Channel) : (s.withChannel c x).line = s.line := rfl
@[simp] theorem State.withChannel_reports (c : Fin 8) (x : Channel) : (s.withChannel c x).reports = s.reports := rfl
@[simp] theorem State.withChannel_store (c : Fin 8) (x : Channel) : (s.withChannel c x).store = s.store := rfl
@[simp] theorem State.withChannel_choice (c : Fin 8) (x : Channel) : (s.withChannel c x).choice = s.choice := rfl
@[simp] theorem State.withChannel_pending (c : Fin 8) (x : Channel) : (s.withChannel c x).pending = s.pending := rfl
@[simp] theorem State.withChannel_fan (c : Fin 8) (x : Channel) (i : Fin 4) : (s.withChannel c x).fan i = s.fan i := rfl
@[simp] theorem State.withChannel_door (c : Fin 8) (x : Channel) (i : Fin 2) : (s.withChannel c x).door i = s.door i := rfl
@[simp] theorem State.withChannel_settings (c : Fin 8) (x : Channel) : (s.withChannel c x).settings = s.settings := rfl
@[simp] theorem State.withChannel_ctl (c : Fin 8) (x : Channel) : (s.withChannel c x).ctl = s.ctl := rfl
@[simp] theorem State.withChannel_channelCfg (c : Fin 8) (x : Channel) (i : Fin 8) : (s.withChannel c x).channelCfg i = s.channelCfg i := rfl
@[simp] theorem State.withChannel_fanCfg (c : Fin 8) (x : Channel) (i : Fin 4) : (s.withChannel c x).fanCfg i = s.fanCfg i := rfl
@[simp] theorem State.withChannel_doorCfg (c : Fin 8) (x : Channel) (i : Fin 2) : (s.withChannel c x).doorCfg i = s.doorCfg i := rfl
@[simp] theorem State.withChannel_incident (c : Fin 8) (x : Channel) : (s.withChannel c x).incident = s.incident := rfl

/-! ### `withFan` -/

@[simp] theorem State.withFan_channels (f : Fin 4) (x : Fan) : (s.withFan f x).channels = s.channels := rfl
@[simp] theorem State.withFan_demand (f : Fin 4) (x : Fan) : (s.withFan f x).demand = s.demand := rfl
@[simp] theorem State.withFan_fans (f : Fin 4) (x : Fan) : (s.withFan f x).fans = s.fans.set f x := rfl
@[simp] theorem State.withFan_arbiter (f : Fin 4) (x : Fan) : (s.withFan f x).arbiter = s.arbiter := rfl
@[simp] theorem State.withFan_doors (f : Fin 4) (x : Fan) : (s.withFan f x).doors = s.doors := rfl
@[simp] theorem State.withFan_modes (f : Fin 4) (x : Fan) : (s.withFan f x).modes = s.modes := rfl
@[simp] theorem State.withFan_stop (f : Fin 4) (x : Fan) : (s.withFan f x).stop = s.stop := rfl
@[simp] theorem State.withFan_escape (f : Fin 4) (x : Fan) : (s.withFan f x).escape = s.escape := rfl
@[simp] theorem State.withFan_maint (f : Fin 4) (x : Fan) : (s.withFan f x).maint = s.maint := rfl
@[simp] theorem State.withFan_line (f : Fin 4) (x : Fan) : (s.withFan f x).line = s.line := rfl
@[simp] theorem State.withFan_reports (f : Fin 4) (x : Fan) : (s.withFan f x).reports = s.reports := rfl
@[simp] theorem State.withFan_store (f : Fin 4) (x : Fan) : (s.withFan f x).store = s.store := rfl
@[simp] theorem State.withFan_choice (f : Fin 4) (x : Fan) : (s.withFan f x).choice = s.choice := rfl
@[simp] theorem State.withFan_pending (f : Fin 4) (x : Fan) : (s.withFan f x).pending = s.pending := rfl
@[simp] theorem State.withFan_channel (f : Fin 4) (x : Fan) (i : Fin 8) : (s.withFan f x).channel i = s.channel i := rfl
@[simp] theorem State.withFan_door (f : Fin 4) (x : Fan) (i : Fin 2) : (s.withFan f x).door i = s.door i := rfl
@[simp] theorem State.withFan_settings (f : Fin 4) (x : Fan) : (s.withFan f x).settings = s.settings := rfl
@[simp] theorem State.withFan_ctl (f : Fin 4) (x : Fan) : (s.withFan f x).ctl = s.ctl := rfl
@[simp] theorem State.withFan_channelCfg (f : Fin 4) (x : Fan) (i : Fin 8) : (s.withFan f x).channelCfg i = s.channelCfg i := rfl
@[simp] theorem State.withFan_fanCfg (f : Fin 4) (x : Fan) (i : Fin 4) : (s.withFan f x).fanCfg i = s.fanCfg i := rfl
@[simp] theorem State.withFan_doorCfg (f : Fin 4) (x : Fan) (i : Fin 2) : (s.withFan f x).doorCfg i = s.doorCfg i := rfl
@[simp] theorem State.withFan_incident (f : Fin 4) (x : Fan) : (s.withFan f x).incident = s.incident := rfl

/-! ### `withDoor` -/

@[simp] theorem State.withDoor_channels (d : Fin 2) (x : Door) : (s.withDoor d x).channels = s.channels := rfl
@[simp] theorem State.withDoor_demand (d : Fin 2) (x : Door) : (s.withDoor d x).demand = s.demand := rfl
@[simp] theorem State.withDoor_fans (d : Fin 2) (x : Door) : (s.withDoor d x).fans = s.fans := rfl
@[simp] theorem State.withDoor_arbiter (d : Fin 2) (x : Door) : (s.withDoor d x).arbiter = s.arbiter := rfl
@[simp] theorem State.withDoor_doors (d : Fin 2) (x : Door) : (s.withDoor d x).doors = s.doors.set d x := rfl
@[simp] theorem State.withDoor_modes (d : Fin 2) (x : Door) : (s.withDoor d x).modes = s.modes := rfl
@[simp] theorem State.withDoor_stop (d : Fin 2) (x : Door) : (s.withDoor d x).stop = s.stop := rfl
@[simp] theorem State.withDoor_escape (d : Fin 2) (x : Door) : (s.withDoor d x).escape = s.escape := rfl
@[simp] theorem State.withDoor_maint (d : Fin 2) (x : Door) : (s.withDoor d x).maint = s.maint := rfl
@[simp] theorem State.withDoor_line (d : Fin 2) (x : Door) : (s.withDoor d x).line = s.line := rfl
@[simp] theorem State.withDoor_reports (d : Fin 2) (x : Door) : (s.withDoor d x).reports = s.reports := rfl
@[simp] theorem State.withDoor_store (d : Fin 2) (x : Door) : (s.withDoor d x).store = s.store := rfl
@[simp] theorem State.withDoor_choice (d : Fin 2) (x : Door) : (s.withDoor d x).choice = s.choice := rfl
@[simp] theorem State.withDoor_pending (d : Fin 2) (x : Door) : (s.withDoor d x).pending = s.pending := rfl
@[simp] theorem State.withDoor_channel (d : Fin 2) (x : Door) (i : Fin 8) : (s.withDoor d x).channel i = s.channel i := rfl
@[simp] theorem State.withDoor_fan (d : Fin 2) (x : Door) (i : Fin 4) : (s.withDoor d x).fan i = s.fan i := rfl
@[simp] theorem State.withDoor_settings (d : Fin 2) (x : Door) : (s.withDoor d x).settings = s.settings := rfl
@[simp] theorem State.withDoor_ctl (d : Fin 2) (x : Door) : (s.withDoor d x).ctl = s.ctl := rfl
@[simp] theorem State.withDoor_channelCfg (d : Fin 2) (x : Door) (i : Fin 8) : (s.withDoor d x).channelCfg i = s.channelCfg i := rfl
@[simp] theorem State.withDoor_fanCfg (d : Fin 2) (x : Door) (i : Fin 4) : (s.withDoor d x).fanCfg i = s.fanCfg i := rfl
@[simp] theorem State.withDoor_doorCfg (d : Fin 2) (x : Door) (i : Fin 2) : (s.withDoor d x).doorCfg i = s.doorCfg i := rfl
@[simp] theorem State.withDoor_incident (d : Fin 2) (x : Door) : (s.withDoor d x).incident = s.incident := rfl

/-! ### `withSettings` -/

@[simp] theorem State.withSettings_channels (p : Settings) : (s.withSettings p).channels = s.channels := rfl
@[simp] theorem State.withSettings_demand (p : Settings) : (s.withSettings p).demand = s.demand := rfl
@[simp] theorem State.withSettings_fans (p : Settings) : (s.withSettings p).fans = s.fans := rfl
@[simp] theorem State.withSettings_arbiter (p : Settings) : (s.withSettings p).arbiter = s.arbiter := rfl
@[simp] theorem State.withSettings_doors (p : Settings) : (s.withSettings p).doors = s.doors := rfl
@[simp] theorem State.withSettings_modes (p : Settings) : (s.withSettings p).modes = s.modes := rfl
@[simp] theorem State.withSettings_stop (p : Settings) : (s.withSettings p).stop = s.stop := rfl
@[simp] theorem State.withSettings_escape (p : Settings) : (s.withSettings p).escape = s.escape := rfl
@[simp] theorem State.withSettings_maint (p : Settings) : (s.withSettings p).maint = s.maint := rfl
@[simp] theorem State.withSettings_line (p : Settings) : (s.withSettings p).line = s.line := rfl
@[simp] theorem State.withSettings_reports (p : Settings) : (s.withSettings p).reports = s.reports := rfl
@[simp] theorem State.withSettings_store (p : Settings) : (s.withSettings p).store = { s.store with working := p } := rfl
@[simp] theorem State.withSettings_choice (p : Settings) : (s.withSettings p).choice = s.choice := rfl
@[simp] theorem State.withSettings_pending (p : Settings) : (s.withSettings p).pending = s.pending := rfl
@[simp] theorem State.withSettings_channel (p : Settings) (i : Fin 8) : (s.withSettings p).channel i = s.channel i := rfl
@[simp] theorem State.withSettings_fan (p : Settings) (i : Fin 4) : (s.withSettings p).fan i = s.fan i := rfl
@[simp] theorem State.withSettings_door (p : Settings) (i : Fin 2) : (s.withSettings p).door i = s.door i := rfl
@[simp] theorem State.withSettings_incident (p : Settings) : (s.withSettings p).incident = s.incident := rfl

/-! ### `withArbiter` -/

@[simp] theorem State.withArbiter_channels (a : Arbiter) : (s.withArbiter a).channels = s.channels := rfl
@[simp] theorem State.withArbiter_demand (a : Arbiter) : (s.withArbiter a).demand = s.demand := rfl
@[simp] theorem State.withArbiter_fans (a : Arbiter) : (s.withArbiter a).fans = s.fans := rfl
@[simp] theorem State.withArbiter_arbiter (a : Arbiter) : (s.withArbiter a).arbiter = a := rfl
@[simp] theorem State.withArbiter_doors (a : Arbiter) : (s.withArbiter a).doors = s.doors := rfl
@[simp] theorem State.withArbiter_modes (a : Arbiter) : (s.withArbiter a).modes = s.modes := rfl
@[simp] theorem State.withArbiter_stop (a : Arbiter) : (s.withArbiter a).stop = s.stop := rfl
@[simp] theorem State.withArbiter_escape (a : Arbiter) : (s.withArbiter a).escape = s.escape := rfl
@[simp] theorem State.withArbiter_maint (a : Arbiter) : (s.withArbiter a).maint = s.maint := rfl
@[simp] theorem State.withArbiter_line (a : Arbiter) : (s.withArbiter a).line = s.line := rfl
@[simp] theorem State.withArbiter_reports (a : Arbiter) : (s.withArbiter a).reports = s.reports := rfl
@[simp] theorem State.withArbiter_store (a : Arbiter) : (s.withArbiter a).store = s.store := rfl
@[simp] theorem State.withArbiter_choice (a : Arbiter) : (s.withArbiter a).choice = s.choice := rfl
@[simp] theorem State.withArbiter_pending (a : Arbiter) : (s.withArbiter a).pending = s.pending := rfl
@[simp] theorem State.withArbiter_channel (a : Arbiter) (i : Fin 8) : (s.withArbiter a).channel i = s.channel i := rfl
@[simp] theorem State.withArbiter_fan (a : Arbiter) (i : Fin 4) : (s.withArbiter a).fan i = s.fan i := rfl
@[simp] theorem State.withArbiter_door (a : Arbiter) (i : Fin 2) : (s.withArbiter a).door i = s.door i := rfl
@[simp] theorem State.withArbiter_settings (a : Arbiter) : (s.withArbiter a).settings = s.settings := rfl
@[simp] theorem State.withArbiter_ctl (a : Arbiter) : (s.withArbiter a).ctl = s.ctl := rfl
@[simp] theorem State.withArbiter_channelCfg (a : Arbiter) (i : Fin 8) : (s.withArbiter a).channelCfg i = s.channelCfg i := rfl
@[simp] theorem State.withArbiter_fanCfg (a : Arbiter) (i : Fin 4) : (s.withArbiter a).fanCfg i = s.fanCfg i := rfl
@[simp] theorem State.withArbiter_doorCfg (a : Arbiter) (i : Fin 2) : (s.withArbiter a).doorCfg i = s.doorCfg i := rfl
@[simp] theorem State.withArbiter_incident (a : Arbiter) : (s.withArbiter a).incident = s.incident := rfl

/-! ### `withModes` -/

@[simp] theorem State.withModes_channels (m : ModeControl) : (s.withModes m).channels = s.channels := rfl
@[simp] theorem State.withModes_demand (m : ModeControl) : (s.withModes m).demand = s.demand := rfl
@[simp] theorem State.withModes_fans (m : ModeControl) : (s.withModes m).fans = s.fans := rfl
@[simp] theorem State.withModes_arbiter (m : ModeControl) : (s.withModes m).arbiter = s.arbiter := rfl
@[simp] theorem State.withModes_doors (m : ModeControl) : (s.withModes m).doors = s.doors := rfl
@[simp] theorem State.withModes_modes (m : ModeControl) : (s.withModes m).modes = m := rfl
@[simp] theorem State.withModes_stop (m : ModeControl) : (s.withModes m).stop = s.stop := rfl
@[simp] theorem State.withModes_escape (m : ModeControl) : (s.withModes m).escape = s.escape := rfl
@[simp] theorem State.withModes_maint (m : ModeControl) : (s.withModes m).maint = s.maint := rfl
@[simp] theorem State.withModes_line (m : ModeControl) : (s.withModes m).line = s.line := rfl
@[simp] theorem State.withModes_reports (m : ModeControl) : (s.withModes m).reports = s.reports := rfl
@[simp] theorem State.withModes_store (m : ModeControl) : (s.withModes m).store = s.store := rfl
@[simp] theorem State.withModes_choice (m : ModeControl) : (s.withModes m).choice = s.choice := rfl
@[simp] theorem State.withModes_pending (m : ModeControl) : (s.withModes m).pending = s.pending := rfl
@[simp] theorem State.withModes_channel (m : ModeControl) (i : Fin 8) : (s.withModes m).channel i = s.channel i := rfl
@[simp] theorem State.withModes_fan (m : ModeControl) (i : Fin 4) : (s.withModes m).fan i = s.fan i := rfl
@[simp] theorem State.withModes_door (m : ModeControl) (i : Fin 2) : (s.withModes m).door i = s.door i := rfl
@[simp] theorem State.withModes_settings (m : ModeControl) : (s.withModes m).settings = s.settings := rfl
@[simp] theorem State.withModes_ctl (m : ModeControl) : (s.withModes m).ctl = s.ctl := rfl
@[simp] theorem State.withModes_channelCfg (m : ModeControl) (i : Fin 8) : (s.withModes m).channelCfg i = s.channelCfg i := rfl
@[simp] theorem State.withModes_fanCfg (m : ModeControl) (i : Fin 4) : (s.withModes m).fanCfg i = s.fanCfg i := rfl
@[simp] theorem State.withModes_doorCfg (m : ModeControl) (i : Fin 2) : (s.withModes m).doorCfg i = s.doorCfg i := rfl

/-! ### `withLine` -/

@[simp] theorem State.withLine_channels (l : LineInterface) : (s.withLine l).channels = s.channels := rfl
@[simp] theorem State.withLine_demand (l : LineInterface) : (s.withLine l).demand = s.demand := rfl
@[simp] theorem State.withLine_fans (l : LineInterface) : (s.withLine l).fans = s.fans := rfl
@[simp] theorem State.withLine_arbiter (l : LineInterface) : (s.withLine l).arbiter = s.arbiter := rfl
@[simp] theorem State.withLine_doors (l : LineInterface) : (s.withLine l).doors = s.doors := rfl
@[simp] theorem State.withLine_modes (l : LineInterface) : (s.withLine l).modes = s.modes := rfl
@[simp] theorem State.withLine_stop (l : LineInterface) : (s.withLine l).stop = s.stop := rfl
@[simp] theorem State.withLine_escape (l : LineInterface) : (s.withLine l).escape = s.escape := rfl
@[simp] theorem State.withLine_maint (l : LineInterface) : (s.withLine l).maint = s.maint := rfl
@[simp] theorem State.withLine_line (l : LineInterface) : (s.withLine l).line = l := rfl
@[simp] theorem State.withLine_reports (l : LineInterface) : (s.withLine l).reports = s.reports := rfl
@[simp] theorem State.withLine_store (l : LineInterface) : (s.withLine l).store = s.store := rfl
@[simp] theorem State.withLine_choice (l : LineInterface) : (s.withLine l).choice = s.choice := rfl
@[simp] theorem State.withLine_pending (l : LineInterface) : (s.withLine l).pending = s.pending := rfl
@[simp] theorem State.withLine_channel (l : LineInterface) (i : Fin 8) : (s.withLine l).channel i = s.channel i := rfl
@[simp] theorem State.withLine_fan (l : LineInterface) (i : Fin 4) : (s.withLine l).fan i = s.fan i := rfl
@[simp] theorem State.withLine_door (l : LineInterface) (i : Fin 2) : (s.withLine l).door i = s.door i := rfl
@[simp] theorem State.withLine_settings (l : LineInterface) : (s.withLine l).settings = s.settings := rfl
@[simp] theorem State.withLine_ctl (l : LineInterface) : (s.withLine l).ctl = s.ctl := rfl
@[simp] theorem State.withLine_channelCfg (l : LineInterface) (i : Fin 8) : (s.withLine l).channelCfg i = s.channelCfg i := rfl
@[simp] theorem State.withLine_fanCfg (l : LineInterface) (i : Fin 4) : (s.withLine l).fanCfg i = s.fanCfg i := rfl
@[simp] theorem State.withLine_doorCfg (l : LineInterface) (i : Fin 2) : (s.withLine l).doorCfg i = s.doorCfg i := rfl
@[simp] theorem State.withLine_incident (l : LineInterface) : (s.withLine l).incident = s.incident := rfl

/-! ### `withDemand` -/

@[simp] theorem State.withDemand_channels (d : Demand) : (s.withDemand d).channels = s.channels := rfl
@[simp] theorem State.withDemand_demand (d : Demand) : (s.withDemand d).demand = d := rfl
@[simp] theorem State.withDemand_fans (d : Demand) : (s.withDemand d).fans = s.fans := rfl
@[simp] theorem State.withDemand_arbiter (d : Demand) : (s.withDemand d).arbiter = s.arbiter := rfl
@[simp] theorem State.withDemand_doors (d : Demand) : (s.withDemand d).doors = s.doors := rfl
@[simp] theorem State.withDemand_modes (d : Demand) : (s.withDemand d).modes = s.modes := rfl
@[simp] theorem State.withDemand_stop (d : Demand) : (s.withDemand d).stop = s.stop := rfl
@[simp] theorem State.withDemand_escape (d : Demand) : (s.withDemand d).escape = s.escape := rfl
@[simp] theorem State.withDemand_maint (d : Demand) : (s.withDemand d).maint = s.maint := rfl
@[simp] theorem State.withDemand_line (d : Demand) : (s.withDemand d).line = s.line := rfl
@[simp] theorem State.withDemand_reports (d : Demand) : (s.withDemand d).reports = s.reports := rfl
@[simp] theorem State.withDemand_store (d : Demand) : (s.withDemand d).store = s.store := rfl
@[simp] theorem State.withDemand_choice (d : Demand) : (s.withDemand d).choice = s.choice := rfl
@[simp] theorem State.withDemand_pending (d : Demand) : (s.withDemand d).pending = s.pending := rfl
@[simp] theorem State.withDemand_channel (d : Demand) (i : Fin 8) : (s.withDemand d).channel i = s.channel i := rfl
@[simp] theorem State.withDemand_fan (d : Demand) (i : Fin 4) : (s.withDemand d).fan i = s.fan i := rfl
@[simp] theorem State.withDemand_door (d : Demand) (i : Fin 2) : (s.withDemand d).door i = s.door i := rfl
@[simp] theorem State.withDemand_settings (d : Demand) : (s.withDemand d).settings = s.settings := rfl
@[simp] theorem State.withDemand_ctl (d : Demand) : (s.withDemand d).ctl = s.ctl := rfl
@[simp] theorem State.withDemand_channelCfg (d : Demand) (i : Fin 8) : (s.withDemand d).channelCfg i = s.channelCfg i := rfl
@[simp] theorem State.withDemand_fanCfg (d : Demand) (i : Fin 4) : (s.withDemand d).fanCfg i = s.fanCfg i := rfl
@[simp] theorem State.withDemand_doorCfg (d : Demand) (i : Fin 2) : (s.withDemand d).doorCfg i = s.doorCfg i := rfl
@[simp] theorem State.withDemand_incident (d : Demand) : (s.withDemand d).incident = s.incident := rfl

/-! ### `withStore` -/

@[simp] theorem State.withStore_channels (t : Store) : (s.withStore t).channels = s.channels := rfl
@[simp] theorem State.withStore_demand (t : Store) : (s.withStore t).demand = s.demand := rfl
@[simp] theorem State.withStore_fans (t : Store) : (s.withStore t).fans = s.fans := rfl
@[simp] theorem State.withStore_arbiter (t : Store) : (s.withStore t).arbiter = s.arbiter := rfl
@[simp] theorem State.withStore_doors (t : Store) : (s.withStore t).doors = s.doors := rfl
@[simp] theorem State.withStore_modes (t : Store) : (s.withStore t).modes = s.modes := rfl
@[simp] theorem State.withStore_stop (t : Store) : (s.withStore t).stop = s.stop := rfl
@[simp] theorem State.withStore_escape (t : Store) : (s.withStore t).escape = s.escape := rfl
@[simp] theorem State.withStore_maint (t : Store) : (s.withStore t).maint = s.maint := rfl
@[simp] theorem State.withStore_line (t : Store) : (s.withStore t).line = s.line := rfl
@[simp] theorem State.withStore_reports (t : Store) : (s.withStore t).reports = s.reports := rfl
@[simp] theorem State.withStore_store (t : Store) : (s.withStore t).store = t := rfl
@[simp] theorem State.withStore_choice (t : Store) : (s.withStore t).choice = s.choice := rfl
@[simp] theorem State.withStore_pending (t : Store) : (s.withStore t).pending = s.pending := rfl
@[simp] theorem State.withStore_channel (t : Store) (i : Fin 8) : (s.withStore t).channel i = s.channel i := rfl
@[simp] theorem State.withStore_fan (t : Store) (i : Fin 4) : (s.withStore t).fan i = s.fan i := rfl
@[simp] theorem State.withStore_door (t : Store) (i : Fin 2) : (s.withStore t).door i = s.door i := rfl
@[simp] theorem State.withStore_incident (t : Store) : (s.withStore t).incident = s.incident := rfl

/-! ### `withReports` -/

@[simp] theorem State.withReports_channels (q : ReportQueue) : (s.withReports q).channels = s.channels := rfl
@[simp] theorem State.withReports_demand (q : ReportQueue) : (s.withReports q).demand = s.demand := rfl
@[simp] theorem State.withReports_fans (q : ReportQueue) : (s.withReports q).fans = s.fans := rfl
@[simp] theorem State.withReports_arbiter (q : ReportQueue) : (s.withReports q).arbiter = s.arbiter := rfl
@[simp] theorem State.withReports_doors (q : ReportQueue) : (s.withReports q).doors = s.doors := rfl
@[simp] theorem State.withReports_modes (q : ReportQueue) : (s.withReports q).modes = s.modes := rfl
@[simp] theorem State.withReports_stop (q : ReportQueue) : (s.withReports q).stop = s.stop := rfl
@[simp] theorem State.withReports_escape (q : ReportQueue) : (s.withReports q).escape = s.escape := rfl
@[simp] theorem State.withReports_maint (q : ReportQueue) : (s.withReports q).maint = s.maint := rfl
@[simp] theorem State.withReports_line (q : ReportQueue) : (s.withReports q).line = s.line := rfl
@[simp] theorem State.withReports_reports (q : ReportQueue) : (s.withReports q).reports = q := rfl
@[simp] theorem State.withReports_store (q : ReportQueue) : (s.withReports q).store = s.store := rfl
@[simp] theorem State.withReports_choice (q : ReportQueue) : (s.withReports q).choice = s.choice := rfl
@[simp] theorem State.withReports_pending (q : ReportQueue) : (s.withReports q).pending = s.pending := rfl
@[simp] theorem State.withReports_channel (q : ReportQueue) (i : Fin 8) : (s.withReports q).channel i = s.channel i := rfl
@[simp] theorem State.withReports_fan (q : ReportQueue) (i : Fin 4) : (s.withReports q).fan i = s.fan i := rfl
@[simp] theorem State.withReports_door (q : ReportQueue) (i : Fin 2) : (s.withReports q).door i = s.door i := rfl
@[simp] theorem State.withReports_settings (q : ReportQueue) : (s.withReports q).settings = s.settings := rfl
@[simp] theorem State.withReports_ctl (q : ReportQueue) : (s.withReports q).ctl = s.ctl := rfl
@[simp] theorem State.withReports_channelCfg (q : ReportQueue) (i : Fin 8) : (s.withReports q).channelCfg i = s.channelCfg i := rfl
@[simp] theorem State.withReports_fanCfg (q : ReportQueue) (i : Fin 4) : (s.withReports q).fanCfg i = s.fanCfg i := rfl
@[simp] theorem State.withReports_doorCfg (q : ReportQueue) (i : Fin 2) : (s.withReports q).doorCfg i = s.doorCfg i := rfl
@[simp] theorem State.withReports_incident (q : ReportQueue) : (s.withReports q).incident = s.incident := rfl

/-! ### `nextChoice` -/

@[simp] theorem State.nextChoice_channels : (s.nextChoice).channels = s.channels := rfl
@[simp] theorem State.nextChoice_demand : (s.nextChoice).demand = s.demand := rfl
@[simp] theorem State.nextChoice_fans : (s.nextChoice).fans = s.fans := rfl
@[simp] theorem State.nextChoice_arbiter : (s.nextChoice).arbiter = s.arbiter := rfl
@[simp] theorem State.nextChoice_doors : (s.nextChoice).doors = s.doors := rfl
@[simp] theorem State.nextChoice_modes : (s.nextChoice).modes = s.modes := rfl
@[simp] theorem State.nextChoice_stop : (s.nextChoice).stop = s.stop := rfl
@[simp] theorem State.nextChoice_escape : (s.nextChoice).escape = s.escape := rfl
@[simp] theorem State.nextChoice_maint : (s.nextChoice).maint = s.maint := rfl
@[simp] theorem State.nextChoice_line : (s.nextChoice).line = s.line := rfl
@[simp] theorem State.nextChoice_reports : (s.nextChoice).reports = s.reports := rfl
@[simp] theorem State.nextChoice_store : (s.nextChoice).store = s.store := rfl
@[simp] theorem State.nextChoice_choice : (s.nextChoice).choice = s.choice + 1 := rfl
@[simp] theorem State.nextChoice_pending : (s.nextChoice).pending = s.pending := rfl
@[simp] theorem State.nextChoice_channel (i : Fin 8) : (s.nextChoice).channel i = s.channel i := rfl
@[simp] theorem State.nextChoice_fan (i : Fin 4) : (s.nextChoice).fan i = s.fan i := rfl
@[simp] theorem State.nextChoice_door (i : Fin 2) : (s.nextChoice).door i = s.door i := rfl
@[simp] theorem State.nextChoice_settings : (s.nextChoice).settings = s.settings := rfl
@[simp] theorem State.nextChoice_ctl : (s.nextChoice).ctl = s.ctl := rfl
@[simp] theorem State.nextChoice_channelCfg (i : Fin 8) : (s.nextChoice).channelCfg i = s.channelCfg i := rfl
@[simp] theorem State.nextChoice_fanCfg (i : Fin 4) : (s.nextChoice).fanCfg i = s.fanCfg i := rfl
@[simp] theorem State.nextChoice_doorCfg (i : Fin 2) : (s.nextChoice).doorCfg i = s.doorCfg i := rfl
@[simp] theorem State.nextChoice_incident : (s.nextChoice).incident = s.incident := rfl

/-! ### `withPending` -/

@[simp] theorem State.withPending_channels (q : List Instr) : (s.withPending q).channels = s.channels := rfl
@[simp] theorem State.withPending_demand (q : List Instr) : (s.withPending q).demand = s.demand := rfl
@[simp] theorem State.withPending_fans (q : List Instr) : (s.withPending q).fans = s.fans := rfl
@[simp] theorem State.withPending_arbiter (q : List Instr) : (s.withPending q).arbiter = s.arbiter := rfl
@[simp] theorem State.withPending_doors (q : List Instr) : (s.withPending q).doors = s.doors := rfl
@[simp] theorem State.withPending_modes (q : List Instr) : (s.withPending q).modes = s.modes := rfl
@[simp] theorem State.withPending_stop (q : List Instr) : (s.withPending q).stop = s.stop := rfl
@[simp] theorem State.withPending_escape (q : List Instr) : (s.withPending q).escape = s.escape := rfl
@[simp] theorem State.withPending_maint (q : List Instr) : (s.withPending q).maint = s.maint := rfl
@[simp] theorem State.withPending_line (q : List Instr) : (s.withPending q).line = s.line := rfl
@[simp] theorem State.withPending_reports (q : List Instr) : (s.withPending q).reports = s.reports := rfl
@[simp] theorem State.withPending_store (q : List Instr) : (s.withPending q).store = s.store := rfl
@[simp] theorem State.withPending_choice (q : List Instr) : (s.withPending q).choice = s.choice := rfl
@[simp] theorem State.withPending_pending (q : List Instr) : (s.withPending q).pending = q := rfl
@[simp] theorem State.withPending_channel (q : List Instr) (i : Fin 8) : (s.withPending q).channel i = s.channel i := rfl
@[simp] theorem State.withPending_fan (q : List Instr) (i : Fin 4) : (s.withPending q).fan i = s.fan i := rfl
@[simp] theorem State.withPending_door (q : List Instr) (i : Fin 2) : (s.withPending q).door i = s.door i := rfl
@[simp] theorem State.withPending_settings (q : List Instr) : (s.withPending q).settings = s.settings := rfl
@[simp] theorem State.withPending_ctl (q : List Instr) : (s.withPending q).ctl = s.ctl := rfl
@[simp] theorem State.withPending_channelCfg (q : List Instr) (i : Fin 8) : (s.withPending q).channelCfg i = s.channelCfg i := rfl
@[simp] theorem State.withPending_fanCfg (q : List Instr) (i : Fin 4) : (s.withPending q).fanCfg i = s.fanCfg i := rfl
@[simp] theorem State.withPending_doorCfg (q : List Instr) (i : Fin 2) : (s.withPending q).doorCfg i = s.doorCfg i := rfl
@[simp] theorem State.withPending_incident (q : List Instr) : (s.withPending q).incident = s.incident := rfl

/-! ### A report -/

@[simp] theorem report_channels (u : Nat) (r : ReportData) : (report u r s).channels = s.channels := rfl
@[simp] theorem report_demand (u : Nat) (r : ReportData) : (report u r s).demand = s.demand := rfl
@[simp] theorem report_fans (u : Nat) (r : ReportData) : (report u r s).fans = s.fans := rfl
@[simp] theorem report_arbiter (u : Nat) (r : ReportData) : (report u r s).arbiter = s.arbiter := rfl
@[simp] theorem report_doors (u : Nat) (r : ReportData) : (report u r s).doors = s.doors := rfl
@[simp] theorem report_modes (u : Nat) (r : ReportData) : (report u r s).modes = s.modes := rfl
@[simp] theorem report_stop (u : Nat) (r : ReportData) : (report u r s).stop = s.stop := rfl
@[simp] theorem report_escape (u : Nat) (r : ReportData) : (report u r s).escape = s.escape := rfl
@[simp] theorem report_maint (u : Nat) (r : ReportData) : (report u r s).maint = s.maint := rfl
@[simp] theorem report_line (u : Nat) (r : ReportData) : (report u r s).line = s.line := rfl
@[simp] theorem report_reports (u : Nat) (r : ReportData) : (report u r s).reports = s.reports.arrive u r := rfl
@[simp] theorem report_store (u : Nat) (r : ReportData) : (report u r s).store = s.store := rfl
@[simp] theorem report_choice (u : Nat) (r : ReportData) : (report u r s).choice = s.choice := rfl
@[simp] theorem report_pending (u : Nat) (r : ReportData) : (report u r s).pending = s.pending := rfl
@[simp] theorem report_channel (u : Nat) (r : ReportData) (i : Fin 8) : (report u r s).channel i = s.channel i := rfl
@[simp] theorem report_fan (u : Nat) (r : ReportData) (i : Fin 4) : (report u r s).fan i = s.fan i := rfl
@[simp] theorem report_door (u : Nat) (r : ReportData) (i : Fin 2) : (report u r s).door i = s.door i := rfl
@[simp] theorem report_channelCfg (u : Nat) (r : ReportData) (i : Fin 8) : (report u r s).channelCfg i = s.channelCfg i := rfl
@[simp] theorem report_fanCfg (u : Nat) (r : ReportData) (i : Fin 4) : (report u r s).fanCfg i = s.fanCfg i := rfl
@[simp] theorem report_doorCfg (u : Nat) (r : ReportData) (i : Fin 2) : (report u r s).doorCfg i = s.doorCfg i := rfl
@[simp] theorem report_settings (u : Nat) (r : ReportData) : (report u r s).settings = s.settings := rfl
@[simp] theorem report_ctl (u : Nat) (r : ReportData) : (report u r s).ctl = s.ctl := rfl
@[simp] theorem report_incident (u : Nat) (r : ReportData) : (report u r s).incident = s.incident := rfl

/-! ### Reading back what was written -/

@[simp] theorem State.withChannel_channel_self (c : Fin 8) (x : Channel) : (s.withChannel c x).channel c = x := by
  simp [State.withChannel, State.channel]

@[simp] theorem State.withFan_fan_self (f : Fin 4) (x : Fan) : (s.withFan f x).fan f = x := by
  simp [State.withFan, State.fan]

@[simp] theorem State.withDoor_door_self (d : Fin 2) (x : Door) : (s.withDoor d x).door d = x := by
  simp [State.withDoor, State.door]

theorem State.withChannel_channel_of_ne {c e : Fin 8} (x : Channel) (h : e ≠ c) :
    (s.withChannel c x).channel e = s.channel e := by
  have : (c : Nat) ≠ e := fun k => h (Fin.ext k.symm)
  simp [State.withChannel, State.channel, this]

theorem State.withFan_fan_of_ne {f g : Fin 4} (x : Fan) (h : g ≠ f) : (s.withFan f x).fan g = s.fan g := by
  have : (f : Nat) ≠ g := fun k => h (Fin.ext k.symm)
  simp [State.withFan, State.fan, this]

theorem State.withDoor_door_of_ne {d e : Fin 2} (x : Door) (h : e ≠ d) : (s.withDoor d x).door e = s.door e := by
  have : (d : Nat) ≠ e := fun k => h (Fin.ext k.symm)
  simp [State.withDoor, State.door, this]

@[simp] theorem State.withSettings_settings (p : Settings) : (s.withSettings p).settings = p := rfl
@[simp] theorem State.withSettings_ctl (p : Settings) : (s.withSettings p).ctl = p.controller := rfl

/-- Writing back what stands there changes nothing. -/
@[simp] theorem State.withFan_fan (f : Fin 4) : s.withFan f (s.fan f) = s := by
  simp [State.withFan, State.fan]

@[simp] theorem State.withDoor_door' (d : Fin 2) : s.withDoor d (s.door d) = s := by
  simp [State.withDoor, State.door]

/-- The second of two writes to one block stands. -/
@[simp] theorem State.withFan_withFan (f : Fin 4) (x y : Fan) : (s.withFan f x).withFan f y = s.withFan f y := by
  simp [State.withFan]

@[simp] theorem State.withDoor_withDoor (d : Fin 2) (x y : Door) : (s.withDoor d x).withDoor d y = s.withDoor d y := by
  simp [State.withDoor]

/-- Two states are equal when their fields are. -/
theorem State.ext_fields {s t : State} (h1 : s.channels = t.channels) (h2 : s.demand = t.demand) (h3 : s.fans = t.fans)
    (h4 : s.arbiter = t.arbiter) (h5 : s.doors = t.doors) (h6 : s.modes = t.modes) (h7 : s.stop = t.stop)
    (h8 : s.escape = t.escape) (h9 : s.maint = t.maint) (h10 : s.line = t.line) (h11 : s.reports = t.reports)
    (h12 : s.store = t.store) (h13 : s.choice = t.choice) (h14 : s.pending = t.pending) : s = t := by
  cases s
  cases t
  simp_all

end Sys2Proof.Machine
end

