-- ==== Sys2Proof/Laws/Frames.lean ====
section
/-! SUPPORT. The free order of one event, and what each shared operation of the fans and of the doors can touch: the
frames of `Safety.lean` composed along each definition, so that no later proof unfolds one of them for it. -/

namespace Sys2Proof.Machine

/-! ### The free order (log entry 5) -/

/-- Every arrangement of a list is a permutation of it. -/
theorem arrange_perm {α : Type} (k : Nat) (l : List α) : (arrange k l).Perm l := by
  induction k, l using arrange.induct with
  | case1 k => exact List.Perm.refl _
  | case2 k x => exact List.Perm.refl _
  | case3 k x y xs ih =>
    have hl : (arrange (k / (xs.length + 2)) (y :: xs)).length = xs.length + 1 := by simpa using ih.length_eq
    have hk : k % (xs.length + 2) ≤ (arrange (k / (xs.length + 2)) (y :: xs)).length := by
      have := Nat.mod_lt k (show 0 < xs.length + 2 by omega)
      omega
    simp only [arrange]
    exact (List.perm_insertIdx x _ hk).trans (List.Perm.cons x ih)

/-- The members that one event takes are those given, whatever the order. -/
theorem mem_arrange {α : Type} (k : Nat) (l : List α) (x : α) : x ∈ arrange k l ↔ x ∈ l := (arrange_perm k l).mem_iff

/-- A relation that holds of nothing done, of a count of the choice and along each member holds of the whole event. -/
theorem takeEach_rel {α : Type} (R : State → State → Prop) (refl : ∀ s, R s s)
    (trans : ∀ s t u, R s t → R t u → R s u) (act : α → State → State) (each : ∀ x s, R s (act x s)) (l : List α)
    (s : State) : R s (takeEach l act s) := by
  induction l generalizing s with
  | nil => exact refl s
  | cons x l ih => exact trans _ _ _ (each x s) (ih (act x s))

theorem takeInAnyOrder_rel {α : Type} (R : State → State → Prop) (refl : ∀ s, R s s)
    (trans : ∀ s t u, R s t → R t u → R s u) (choice : ∀ s, R s s.nextChoice) (act : α → State → State)
    (each : ∀ x s, R s (act x s)) (l : List α) (s : State) : R s (takeInAnyOrder l act s) :=
  trans _ _ _ (choice s) (takeEach_rel R refl trans act each _ _)

/-- An invariant that every member keeps is kept by the whole event. -/
theorem takeEach_inv {α : Type} (P : State → Prop) (act : α → State → State) (each : ∀ x s, P s → P (act x s))
    (l : List α) (s : State) (h : P s) : P (takeEach l act s) := by
  induction l generalizing s with
  | nil => exact h
  | cons x l ih => exact ih (act x s) (each x s h)

theorem takeInAnyOrder_inv {α : Type} (P : State → Prop) (choice : ∀ s, P s → P s.nextChoice)
    (act : α → State → State) (each : ∀ x s, P s → P (act x s)) (l : List α) (s : State) (h : P s) :
    P (takeInAnyOrder l act s) :=
  takeEach_inv P act each _ _ (choice s h)

/-! ### The queue of reports (R169, R170) -/

theorem Queued.refl (q : ReportQueue) : Queued q q := ⟨[], rfl⟩

theorem Queued.trans {a b c : ReportQueue} : Queued a b → Queued b c → Queued a c := by
  rintro ⟨l, rfl⟩ ⟨m, rfl⟩
  exact ⟨l ++ m, by simp [List.foldl_append]⟩

theorem Queued.arrive (q : ReportQueue) (u : Nat) (r : ReportData) : Queued q (q.arrive u r) := ⟨[(u, r)], rfl⟩

theorem ReportQueue.arrive_timeBase (q : ReportQueue) (u : Nat) (r : ReportData) :
    (q.arrive u r).timeBase = q.timeBase := by
  unfold ReportQueue.arrive
  split <;> rfl

/-- Arrivals keep the bound of R170. -/
theorem ReportQueue.arrive_length (q : ReportQueue) (u : Nat) (r : ReportData) (h : q.records.length ≤ 32) :
    (q.arrive u r).records.length ≤ 32 := by
  unfold ReportQueue.arrive Config.queueDepth
  split
  · simp; omega
  · exact h

/-! ### Fan frames -/

theorem FanFrame.refl (s : State) : FanFrame s s := ⟨rfl, .refl _⟩

theorem FanFrame.trans {s t u : State} (a : FanFrame s t) (b : FanFrame t u) : FanFrame s u := by
  refine ⟨?_, a.queued.trans b.queued⟩
  have hb := b.same
  rw [a.same] at hb
  simpa using hb

theorem FanFrame.report (u : Nat) (r : ReportData) (s : State) : FanFrame s (report u r s) := ⟨rfl, .arrive _ _ _⟩
theorem FanFrame.withFan (f : Fin 4) (x : Fan) (s : State) : FanFrame s (s.withFan f x) := ⟨rfl, .refl _⟩
theorem FanFrame.withArbiter (a : Arbiter) (s : State) : FanFrame s (s.withArbiter a) := ⟨rfl, .refl _⟩
theorem FanFrame.nextChoice (s : State) : FanFrame s s.nextChoice := ⟨rfl, .refl _⟩

theorem FanFrame.takeInAnyOrder {α : Type} (act : α → State → State) (each : ∀ x s, FanFrame s (act x s)) (l : List α)
    (s : State) : FanFrame s (takeInAnyOrder l act s) :=
  takeInAnyOrder_rel FanFrame .refl (fun _ _ _ => .trans) .nextChoice act each l s

theorem FanFrame.takeEach {α : Type} (act : α → State → State) (each : ∀ x s, FanFrame s (act x s)) (l : List α)
    (s : State) : FanFrame s (takeEach l act s) :=
  takeEach_rel FanFrame .refl (fun _ _ _ => .trans) act each l s

theorem reportFan_frame (f : Fin 4) (c : FanCause) (s : State) : FanFrame s (reportFan f c s) := .report _ _ s

theorem reportFanChange_frame (b : FanState) (f : Fin 4) (c : FanCause) (s : State) :
    FanFrame s (reportFanChange b f c s) := by
  unfold reportFanChange
  split
  · exact .refl s
  · split <;> exact reportFan_frame ..

theorem leaveArbiter_frame (f : Fin 4) (s : State) : FanFrame s (leaveArbiter f s) :=
  (FanFrame.withArbiter _ s).trans (.withFan _ _ _)

theorem enterCoasting_frame (f : Fin 4) (s : State) : FanFrame s (enterCoasting f s) :=
  (leaveArbiter_frame f s).trans (.withFan _ _ _)

theorem enterStopping_frame (f : Fin 4) (s : State) : FanFrame s (enterStopping f s) := by
  refine (leaveArbiter_frame f s).trans ?_
  unfold enterStopping
  dsimp only
  split <;> exact .withFan _ _ _

theorem trip_frame (f : Fin 4) (c : TripCause) (s : State) : FanFrame s (trip f c s) :=
  (leaveArbiter_frame f s).trans (.withFan _ _ _)

theorem enterAwait_frame (f : Fin 4) (s : State) : FanFrame s (enterAwait f s) := by
  unfold enterAwait
  dsimp only
  refine (FanFrame.withFan f { s.fan f with state := .awaitGrant, latched := (s.fan f).target.dir } s).trans ?_
  split
  · exact trip_frame ..
  · split
    · exact .withArbiter _ _
    · exact .withFan _ _ _

theorem reapply_frame (f : Fin 4) (s : State) : FanFrame s (reapply f s) := by
  unfold reapply
  split
  · exact enterAwait_frame f s
  · exact .refl s

theorem enterOff_frame (f : Fin 4) (s : State) : FanFrame s (enterOff f s) :=
  (FanFrame.withFan _ _ s).trans (reapply_frame _ _)

theorem enterRunning_frame (f : Fin 4) (b : Bool) (s : State) : FanFrame s (enterRunning f b s) :=
  (leaveArbiter_frame f s).trans (.withFan _ _ _)

theorem startPhaseTest_frame (f : Fin 4) (s : State) : FanFrame s (startPhaseTest f s) := by
  unfold startPhaseTest
  split
  · exact (enterRunning_frame f false s).trans (reportFan_frame ..)
  · exact .refl s

theorem firstGrant_frame (f : Fin 4) (s : State) : FanFrame s (firstGrant f s) :=
  ((FanFrame.withArbiter _ s).trans (.withFan _ _ _)).trans (reportFan_frame ..)

theorem reGrant_frame (f : Fin 4) (s : State) : FanFrame s (reGrant f s) :=
  (((FanFrame.withArbiter _ s).trans (.withFan _ _ _)).trans (reportFan_frame ..)).trans (startPhaseTest_frame ..)

theorem grant_frame (f : Fin 4) (s : State) : FanFrame s (grant f s) := by
  unfold grant
  split
  · exact reGrant_frame f s
  · exact firstGrant_frame f s

theorem suspend_frame (f : Fin 4) (s : State) : FanFrame s (suspend f s) :=
  ((FanFrame.withArbiter _ s).trans (.withFan _ _ _)).trans (reportFan_frame ..)

theorem serveOnce_frame (s t : State) (h : serveOnce s = some t) : FanFrame s t := by
  unfold serveOnce at h
  split at h
  · split at h
    · cases h
      exact grant_frame ..
    · obtain ⟨g, _, rfl⟩ := Option.map_eq_some_iff.mp h
      exact (suspend_frame ..).trans (grant_frame ..)
  · split at h
    · obtain ⟨g, _, rfl⟩ := Option.map_eq_some_iff.mp h
      exact grant_frame ..
    · cases h

theorem serveFor_frame (n : Nat) (s : State) : FanFrame s (serveFor n s) := by
  induction n generalizing s with
  | zero => exact .refl s
  | succ n ih =>
    unfold serveFor
    split
    · next t h => exact (serveOnce_frame s t h).trans (ih t)
    · exact .refl s

theorem serve_frame (s : State) : FanFrame s (serve s) := serveFor_frame 8 s

theorem takeTarget_frame (f : Fin 4) (t : Target) (s : State) : FanFrame s (takeTarget f t s) := by
  unfold takeTarget
  refine (FanFrame.withFan f { s.fan f with target := t } s).trans ?_
  dsimp only
  split
  · exact reapply_frame ..
  · split
    · exact (leaveArbiter_frame ..).trans (.withFan _ _ _)
    · exact .withFan _ _ _
  · split
    · exact enterStopping_frame ..
    · split
      · exact .refl _
      · split
        · exact enterCoasting_frame ..
        · exact enterStopping_frame ..
  · split
    · exact enterStopping_frame ..
    · split
      · exact .refl _
      · split
        · exact enterCoasting_frame ..
        · exact enterStopping_frame ..
  · split
    · exact .withFan _ _ _
    · exact .refl _
  all_goals exact .refl _

theorem targetChange_frame (f : Fin 4) (t : Target) (s : State) : FanFrame s (targetChange f t s) :=
  (((takeTarget_frame f t s).trans (reportFanChange_frame ..)).trans (startPhaseTest_frame ..)).trans (serve_frame _)

theorem recompose_frame (f : Fin 4) (s : State) : FanFrame s (recompose f s) := by
  unfold recompose
  split
  · exact .refl s
  · exact targetChange_frame ..

theorem setModeTarget_frame (f : Fin 4) (t : Target) (s : State) : FanFrame s (setModeTarget f t s) :=
  (FanFrame.withFan _ _ s).trans (recompose_frame _ _)

theorem refreshAuto_frame (f : Fin 4) (s : State) : FanFrame s (refreshAuto f s) := by
  unfold refreshAuto
  split
  · exact setModeTarget_frame ..
  · exact .refl s

theorem refreshIncident_frame (f : Fin 4) (s : State) : FanFrame s (refreshIncident f s) := setModeTarget_frame ..

theorem clampReference_frame (f : Fin 4) (s : State) : FanFrame s (clampReference f s) := .withFan _ _ s

theorem evaluateUrgency_frame (s : State) : FanFrame s (evaluateUrgency s) := .withArbiter _ s

theorem reviewUrgency_frame (s : State) : FanFrame s (reviewUrgency s) := (evaluateUrgency_frame s).trans (serve_frame _)

theorem fanTakesDoorChange_frame (b : Bool) (s : State) : FanFrame s (fanTakesDoorChange b s) := by
  unfold fanTakesDoorChange
  split
  · split
    · exact (clampReference_frame _ s).trans (recompose_frame _ _)
    · exact recompose_frame _ _
  · exact .refl s

theorem handDoorChange_frame (b : Bool) (s : State) : FanFrame s (handDoorChange b s) := by
  exact (evaluateUrgency_frame s).trans ((fanTakesDoorChange_frame b _).trans (serve_frame _))

/-! ### Door frames: one door, the fans it bears on, and the queue -/

/-- The frame of an event at door `d`. -/
structure OneDoor (d : Fin 2) (s t : State) : Prop where
  frame : DoorFrame s t
  others : OtherDoors d s t

theorem FanFrame.doorFrame {s t : State} (h : FanFrame s t) : DoorFrame s t := by
  refine ⟨?_, h.queued⟩
  have hd : t.doors = s.doors := by rw [h.same]
  have hs := h.same
  rw [hd]
  exact hs

theorem FanFrame.door {s t : State} (h : FanFrame s t) (d : Fin 2) : t.door d = s.door d := by
  rw [h.same]
  rfl

theorem FanFrame.store {s t : State} (h : FanFrame s t) : t.store = s.store := by rw [h.same]
theorem FanFrame.modes {s t : State} (h : FanFrame s t) : t.modes = s.modes := by rw [h.same]
theorem FanFrame.channels {s t : State} (h : FanFrame s t) : t.channels = s.channels := by rw [h.same]
theorem FanFrame.line {s t : State} (h : FanFrame s t) : t.line = s.line := by rw [h.same]
theorem FanFrame.demand {s t : State} (h : FanFrame s t) : t.demand = s.demand := by rw [h.same]
theorem FanFrame.stop {s t : State} (h : FanFrame s t) : t.stop = s.stop := by rw [h.same]
theorem FanFrame.pending {s t : State} (h : FanFrame s t) : t.pending = s.pending := by rw [h.same]

theorem DoorFrame.refl (s : State) : DoorFrame s s := ⟨rfl, .refl _⟩

theorem DoorFrame.trans {s t u : State} (a : DoorFrame s t) (b : DoorFrame t u) : DoorFrame s u := by
  refine ⟨?_, a.queued.trans b.queued⟩
  have hb := b.same
  rw [a.same] at hb
  simpa using hb

theorem DoorFrame.store {s t : State} (h : DoorFrame s t) : t.store = s.store := by rw [h.same]
theorem DoorFrame.modes {s t : State} (h : DoorFrame s t) : t.modes = s.modes := by rw [h.same]
theorem DoorFrame.channels {s t : State} (h : DoorFrame s t) : t.channels = s.channels := by rw [h.same]
theorem DoorFrame.line {s t : State} (h : DoorFrame s t) : t.line = s.line := by rw [h.same]
theorem DoorFrame.demand {s t : State} (h : DoorFrame s t) : t.demand = s.demand := by rw [h.same]
theorem DoorFrame.pending {s t : State} (h : DoorFrame s t) : t.pending = s.pending := by rw [h.same]

theorem DoorFrame.sampleFrame {s t : State} (h : DoorFrame s t) : SampleFrame s t := by
  refine ⟨?_, h.queued⟩
  have hs := h.same
  rw [h.channels, h.demand]
  exact hs

theorem SampleFrame.trans {s t u : State} (a : SampleFrame s t) (b : SampleFrame t u) : SampleFrame s u := by
  refine ⟨?_, a.queued.trans b.queued⟩
  have hb := b.same
  rw [a.same] at hb
  simpa using hb

theorem SampleFrame.blockFrame {s t : State} (h : SampleFrame s t) : BlockFrame s t := by
  refine ⟨?_, h.queued⟩
  have hs := h.same
  have h1 : t.modes = s.modes := by rw [hs]
  have h2 : t.stop = s.stop := by rw [hs]
  have h3 : t.escape = s.escape := by rw [hs]
  have h4 : t.maint = s.maint := by rw [hs]
  rw [h1, h2, h3, h4]
  exact hs

theorem BlockFrame.trans {s t u : State} (a : BlockFrame s t) (b : BlockFrame t u) : BlockFrame s u := by
  refine ⟨?_, a.queued.trans b.queued⟩
  have hb := b.same
  rw [a.same] at hb
  simpa using hb

theorem OneDoor.refl (d : Fin 2) (s : State) : OneDoor d s s := ⟨.refl s, fun _ _ => rfl⟩

theorem OneDoor.trans {d : Fin 2} {s t u : State} (a : OneDoor d s t) (b : OneDoor d t u) : OneDoor d s u :=
  ⟨a.frame.trans b.frame, fun e h => (b.others e h).trans (a.others e h)⟩

theorem OneDoor.fan {d : Fin 2} {s t : State} (h : FanFrame s t) : OneDoor d s t := ⟨h.doorFrame, fun e _ => h.door e⟩

theorem OneDoor.withDoor (d : Fin 2) (x : Door) (s : State) : OneDoor d s (s.withDoor d x) :=
  ⟨⟨rfl, .refl _⟩, fun _ h => s.withDoor_door_of_ne x h⟩

theorem OneDoor.report (d : Fin 2) (u : Nat) (r : ReportData) (s : State) : OneDoor d s (report u r s) :=
  .fan (.report u r s)

theorem enterDoor_oneDoor (d : Fin 2) (st : DoorState) (s : State) : OneDoor d s (enterDoor d st s) :=
  (OneDoor.withDoor d _ s).trans (.fan (handDoorChange_frame _ _))

theorem updateCreep_oneDoor (d : Fin 2) (s : State) : OneDoor d s (updateCreep d s) := .withDoor d _ s

theorem relock_oneDoor (d : Fin 2) (s : State) : OneDoor d s (relock d s) := by
  unfold relock
  split
  · exact enterDoor_oneDoor ..
  · exact .refl d s

theorem runMotor_oneDoor (d : Fin 2) (dir : DoorDir) (s : State) : OneDoor d s (runMotor d dir s) :=
  ((OneDoor.withDoor d _ s).trans (enterDoor_oneDoor ..)).trans (updateCreep_oneDoor ..)

theorem setCurrent_oneDoor (d : Fin 2) (t : Travel) (s : State) : OneDoor d s (setCurrent d t s) := .withDoor d _ s

theorem clearSlot_oneDoor (d : Fin 2) (s : State) : OneDoor d s (clearSlot d s) := .withDoor d _ s

theorem placeInSlot_oneDoor (d : Fin 2) (t : Travel) (s : State) : OneDoor d s (placeInSlot d t s) := by
  unfold placeInSlot
  dsimp only
  split
  · exact (OneDoor.report ..).trans (.withDoor ..)
  · exact .withDoor ..

theorem endRelief_oneDoor (d : Fin 2) (o : ReliefOutcome) (s : State) : OneDoor d s (endRelief d o s) := by
  unfold endRelief
  dsimp only
  exact ((OneDoor.withDoor ..).trans (.report ..)).trans (runMotor_oneDoor ..)

theorem enterRelieving_oneDoor (d : Fin 2) (c : Fin 8) (s : State) : OneDoor d s (enterRelieving d c s) := by
  unfold enterRelieving
  dsimp only
  split
  · exact ((OneDoor.withDoor d _ s).trans (enterDoor_oneDoor ..)).trans (endRelief_oneDoor ..)
  · exact (OneDoor.withDoor d _ s).trans (enterDoor_oneDoor ..)

theorem pressureCheck_oneDoor (d : Fin 2) (s : State) : OneDoor d s (pressureCheck d s) := by
  unfold pressureCheck
  split
  · exact runMotor_oneDoor ..
  · split
    · exact runMotor_oneDoor ..
    · exact enterRelieving_oneDoor ..

theorem beginTravel_oneDoor (d : Fin 2) (t : Travel) (s : State) : OneDoor d s (beginTravel d t s) := by
  unfold beginTravel
  dsimp only
  split
  · exact ((placeInSlot_oneDoor ..).trans (setCurrent_oneDoor ..)).trans (runMotor_oneDoor ..)
  · refine (setCurrent_oneDoor d ((s.door d).raised t) s).trans ?_
    split
    · exact (OneDoor.withDoor ..).trans (enterDoor_oneDoor ..)
    · split
      · exact pressureCheck_oneDoor ..
      · exact runMotor_oneDoor ..

theorem doneReport_oneDoor (d : Fin 2) (t : Travel) (e : Termination) (s : State) : OneDoor d s (doneReport d t e s) :=
  (OneDoor.withDoor d _ s).trans (.report ..)

theorem reverse_oneDoor (d : Fin 2) (t : Travel) (s : State) : OneDoor d s (reverse d t s) := by
  unfold reverse
  dsimp only
  generalize (if t.reason = Reason.autoReclose then _ else s.door d : Door) = x
  exact ((OneDoor.withDoor d x s).trans (setCurrent_oneDoor ..)).trans (runMotor_oneDoor ..)

theorem considerSlot_oneDoor (d : Fin 2) (s : State) : OneDoor d s (considerSlot d s) := by
  unfold considerSlot
  split
  · exact (clearSlot_oneDoor d s).trans (beginTravel_oneDoor ..)
  · exact relock_oneDoor ..

theorem startReopen_oneDoor (d : Fin 2) (b : Bool) (s : State) : OneDoor d s (startReopen d b s) := by
  unfold startReopen
  dsimp only
  split
  · exact .withDoor ..
  · exact .refl d s

theorem finishTravel_oneDoor (d : Fin 2) (e : Termination) (s : State) : OneDoor d s (finishTravel d e s) := by
  unfold finishTravel
  split
  · exact .refl d s
  · next t _ =>
    dsimp only
    refine (doneReport_oneDoor d t e s).trans ?_
    split
    · exact (clearSlot_oneDoor ..).trans (enterDoor_oneDoor ..)
    · split
      · exact reverse_oneDoor ..
      · exact (enterDoor_oneDoor ..).trans (considerSlot_oneDoor ..)

theorem testsFor_oneDoor (n : Nat) (edge obstructed : Bool) (d : Fin 2) (s : State) :
    OneDoor d s (testsFor n edge obstructed d s) := by
  induction n generalizing edge obstructed s with
  | zero => exact startReopen_oneDoor ..
  | succ n ih =>
    unfold testsFor
    split
    · exact startReopen_oneDoor ..
    · refine OneDoor.trans ?_ (ih _ _ _)
      split
      · exact (clearSlot_oneDoor ..).trans (finishTravel_oneDoor ..)
      · exact finishTravel_oneDoor ..

theorem testTravel_oneDoor (d : Fin 2) (s : State) : OneDoor d s (testTravel d s) := testsFor_oneDoor ..
theorem testStart_oneDoor (d : Fin 2) (s : State) : OneDoor d s (testStart d s) := testsFor_oneDoor ..

theorem startTravel_oneDoor (d : Fin 2) (t : Travel) (s : State) : OneDoor d s (startTravel d t s) :=
  (beginTravel_oneDoor d t s).trans (testStart_oneDoor ..)

theorem endTravel_oneDoor (d : Fin 2) (e : Termination) (s : State) : OneDoor d s (endTravel d e s) :=
  (finishTravel_oneDoor d e s).trans (testStart_oneDoor ..)

theorem raiseCurrent_oneDoor (d : Fin 2) (s : State) : OneDoor d s (raiseCurrent d s) := .withDoor d _ s

theorem abortToEscape_oneDoor (d : Fin 2) (s : State) : OneDoor d s (abortToEscape d s) := by
  unfold abortToEscape
  dsimp only
  split
  · exact ((OneDoor.report ..).trans (clearSlot_oneDoor ..)).trans (setCurrent_oneDoor ..)
  · exact (clearSlot_oneDoor ..).trans (setCurrent_oneDoor ..)

theorem escapeActs_oneDoor (d : Fin 2) (s : State) : OneDoor d s (escapeActs d s) := by
  unfold escapeActs
  split
  any_goals exact startTravel_oneDoor ..
  · exact ((abortToEscape_oneDoor ..).trans (runMotor_oneDoor ..)).trans (testStart_oneDoor ..)
  · split
    · exact abortToEscape_oneDoor ..
    · exact raiseCurrent_oneDoor ..
  · exact raiseCurrent_oneDoor ..
  · exact raiseCurrent_oneDoor ..
  · exact .withDoor ..
  · exact .refl d s

theorem putSource_oneDoor (d : Fin 2) (b : Bool) (src : EscapeSource) (s : State) : OneDoor d s (putSource d b src s) :=
  (OneDoor.withDoor d _ s).trans (.fan (reviewUrgency_frame _))

theorem arrive_oneDoor (d : Fin 2) (src : EscapeSource) (s : State) : OneDoor d s (arrive d src s) := by
  unfold arrive
  split
  · exact .refl d s
  · dsimp only
    have h := (((OneDoor.withDoor d { s.door d with escape := (s.door d).escape.put true src } s).trans
      (.report d (doorUnit d) (.doorRequest src) _)).trans (.fan (reviewUrgency_frame _))).trans
      (escapeActs_oneDoor d _)
    split
    · exact h.trans (putSource_oneDoor ..)
    · exact h

theorem removeSource_oneDoor (d : Fin 2) (src : EscapeSource) (s : State) : OneDoor d s (removeSource d src s) := by
  unfold removeSource
  split
  · dsimp only
    split
    · exact putSource_oneDoor ..
    · exact (putSource_oneDoor ..).trans (.withDoor ..)
  · exact .refl d s

theorem leaveClosed_oneDoor (d : Fin 2) (b : Bool) (s : State) : OneDoor d s (leaveClosed d b s) := by
  unfold leaveClosed
  split
  · exact enterDoor_oneDoor ..
  · exact .refl d s

theorem observeRelief_oneDoor (c : Fin 8) (d : Fin 2) (s : State) : OneDoor d s (observeRelief c d s) := by
  unfold observeRelief
  dsimp only
  split
  · refine (OneDoor.withDoor d { s.door d with
      lastObserved := (s.channel c).average, observedUsable := (s.channel c).usable } s).trans ?_
    split
    · split
      · exact (endRelief_oneDoor ..).trans (testStart_oneDoor ..)
      · exact .refl d _
    · split
      · exact (endRelief_oneDoor ..).trans (testStart_oneDoor ..)
      · exact .refl d _
  · exact .refl d s

theorem applyPolicy_oneDoor (p : DoorPolicy) (d : Fin 2) (s : State) : OneDoor d s (applyPolicy p d s) := by
  unfold applyPolicy
  split
  · exact arrive_oneDoor ..
  · dsimp only
    split
    · exact (OneDoor.withDoor ..).trans (enterDoor_oneDoor ..)
    · exact .withDoor ..
  · exact .refl d s

theorem removePolicy_oneDoor (p : DoorPolicy) (d : Fin 2) (s : State) : OneDoor d s (removePolicy p d s) := by
  unfold removePolicy
  split
  · exact removeSource_oneDoor ..
  · exact (OneDoor.withDoor ..).trans (relock_oneDoor ..)
  · exact .refl d s

/-! ### The demand unit -/

theorem recomputeDemand_frame (s : State) : FanFrame (s.withDemand (recomputeDemand s).demand) (recomputeDemand s) := by
  unfold recomputeDemand
  dsimp only
  split
  · exact .refl s
  · split
    · have h := FanFrame.takeInAnyOrder refreshAuto refreshAuto_frame allFans
        (report 0 (.demand (demandStage s) s.demand.floor) (s.withDemand { s.demand with stage := demandStage s }))
      rw [h.demand]
      exact (FanFrame.report _ _ _).trans h
    · exact .report _ _ _

end Sys2Proof.Machine
end

