-- ==== Sys2Proof/Laws/Operations.lean ====
section
/-! SUPPORT. What single shared operations do: the arbiter with nothing to give, the write of one tach input, the passing of
no time, and a request taken from the receiver. -/

namespace Sys2Proof.Machine

/-! ### The feed arbiter with nothing to give (R81) -/

theorem urgentRequest_of_noRequest {s : State} (h : NoRequest s) : urgentRequest s = none := by
  obtain ⟨hw, hs⟩ := h
  simp [urgentRequest, hs, hw]

theorem nextRequest_of_noRequest {s : State} (h : NoRequest s) : nextRequest s = none := by
  simp [nextRequest, urgentRequest_of_noRequest h, h.1, h.2]

theorem serve_of_noRequest {s : State} (h : NoRequest s) : serve s = s := by
  simp [serve, serveFor, serveOnce, urgentRequest_of_noRequest h, nextRequest_of_noRequest h]

/-! ### The record in a door's slot (R101) -/

theorem SlotAsked.of_empty {x : Door} (h : x.slot = none) : SlotAsked x := fun _ hn => nomatch h.symm.trans hn

/-- Whatever leaves the slot as it was, or empties it, keeps what it may hold. -/
theorem SlotAsked.of_slot {x y : Door} (hx : SlotAsked x) (h : y.slot = x.slot ∨ y.slot = none) : SlotAsked y :=
  h.elim (fun h _ hn => hx _ (h ▸ hn)) .of_empty

/-- The record of a slot loses no retry to an obstruction (R103). -/
theorem SlotAsked.ne_autoReclose {x : Door} (hx : SlotAsked x) {n : Travel} (hn : x.slot = some n) :
    n.reason ≠ .autoReclose := by
  rcases hx n hn with h | h <;> simp [h]

/-! ### One tach input written -/

@[simp] theorem State.withTach_arbiter (s : State) (f : Fin 4) (t : Tach) : (s.withTach f t).arbiter = s.arbiter := rfl
@[simp] theorem State.withTach_doors (s : State) (f : Fin 4) (t : Tach) : (s.withTach f t).doors = s.doors := rfl
@[simp] theorem State.withTach_modes (s : State) (f : Fin 4) (t : Tach) : (s.withTach f t).modes = s.modes := rfl
@[simp] theorem State.withTach_line (s : State) (f : Fin 4) (t : Tach) : (s.withTach f t).line = s.line := rfl
@[simp] theorem State.withTach_reports (s : State) (f : Fin 4) (t : Tach) : (s.withTach f t).reports = s.reports := rfl
@[simp] theorem State.withTach_store (s : State) (f : Fin 4) (t : Tach) : (s.withTach f t).store = s.store := rfl
@[simp] theorem State.withTach_pending (s : State) (f : Fin 4) (t : Tach) : (s.withTach f t).pending = s.pending := rfl
@[simp] theorem State.withTach_fanCfg (s : State) (f : Fin 4) (t : Tach) (i : Fin 4) :
    (s.withTach f t).fanCfg i = s.fanCfg i := rfl

@[simp] theorem State.withTach_fan_self (s : State) (f : Fin 4) (t : Tach) :
    (s.withTach f t).fan f = { s.fan f with tach := t } := by simp [State.withTach]

theorem State.withTach_fan_of_ne (s : State) {f g : Fin 4} (t : Tach) (h : g ≠ f) : (s.withTach f t).fan g = s.fan g :=
  State.withFan_fan_of_ne s _ h

theorem State.withTach_withTach (s : State) (f : Fin 4) (t u : Tach) : (s.withTach f t).withTach f u = s.withTach f u := by
  simp [State.withTach]

/-- No samples change nothing (R66). -/
@[simp] theorem tachTakesSamples_zero (f : Fin 4) (s : State) : tachTakesSamples f 0 s = s := by simp [tachTakesSamples]

/-- At the accepted level samples clear the disagreement count, and their time passes (R66). -/
theorem tachTakesSamples_at_level {f : Fin 4} {n : Nat} {s : State} (hn : n ≠ 0)
    (h : (s.fan f).tach.pin = (s.fan f).tach.level) :
    tachTakesSamples f n s = tachPasses f (20 * n) (s.withTach f { (s.fan f).tach with disagreement := 0 }) := by
  simp [tachTakesSamples, hn, h]

/-! ### A request taken from the receiver (R157, R158) -/

/-- The receiver brings a request as the row of the request does. -/
theorem takeRequest_requestOf (kind dest : Byte) (payload : List Byte) (s : State) :
    Host.Outcome.next (takeRequest (requestOf kind dest payload) s) = exec (requestOf kind dest payload) s := by
  unfold requestOf
  split <;> rfl

/-- Whatever the characters of a frame bring is what the row of that command brings. -/
theorem takeRequest_of_frameCommand {bytes : List Byte} {i : Instr} (h : frameCommand bytes = some i) (s : State) :
    Host.Outcome.next (takeRequest i s) = exec i s := by
  unfold frameCommand at h
  split at h
  · dsimp only at h
    split at h
    · cases h
    · split at h
      · cases h; rfl
      · split at h
        · cases h
        · split at h
          · cases h; exact takeRequest_requestOf ..
          · cases h; rfl
  · cases h

end Sys2Proof.Machine
end

