-- ==== Sys2Proof/Laws/PerInstr.lean ====
section
/-! SUPPORT. One lemma for each command about its form as a request of the niche line: where it is one, its kind gives
the command back and its payload fits a frame. The events of the part have no such form. -/

namespace Sys2Proof.Laws

/-- The form of a well-formed request: its kind, destination and payload give it back, and a frame can carry it
(R156, R158, 10.7). -/
def RequestForm.Statement (i : Instr) : Prop :=
  ∀ kind dest payload, requestParts i = some (kind, dest, payload) → i.wellFormed = true →
    requestOf kind dest payload = i ∧ payload.length ≤ Config.maxPayload

/-- An event has no request form. -/
theorem requestForm_of_event {i : Instr} (h : requestParts i = none) : RequestForm.Statement i := by
  intro kind dest payload hp
  rw [h] at hp
  exact nomatch hp

/-- A request of one kind of the catalogue. -/
theorem requestForm_of_kind {i : Instr} {kind dest : Byte} {payload : List Byte}
    (hp : requestParts i = some (kind, dest, payload)) (hr : requestOf kind dest payload = i)
    (hw : i.wellFormed = payloadOk payload) : RequestForm.Statement i := by
  intro k d p h hi
  rw [hp] at h
  obtain ⟨rfl, rfl, rfl⟩ := by simpa using h
  exact ⟨hr, by simpa [hw, payloadOk] using hi⟩

/-- A kind outside the catalogue reads as an unknown kind. -/
theorem requestOf_unknown (kind dest : Byte) (payload : List Byte) (h : unknownKindOk kind = true) :
    requestOf kind dest payload = .unknownKind dest kind payload := by
  revert h
  obtain ⟨⟨n, hn⟩⟩ := kind
  have : n < 256 := hn
  interval_cases n <;> first | (intro _; rfl) | (intro h; exact absurd h (by revert hn; decide))

theorem RequestForm.powerOnReset (straps : Straps) (pins : Pins) : RequestForm.Statement (.powerOnReset straps pins) :=
  requestForm_of_event rfl

theorem RequestForm.warmReset (pins : Pins) : RequestForm.Statement (.warmReset pins) :=
  requestForm_of_event rfl

theorem RequestForm.sampleInstant (c : Fin 8) (current : Nat) : RequestForm.Statement (.sampleInstant c current) :=
  requestForm_of_event rfl

theorem RequestForm.rampInstant (f : Fin 4) : RequestForm.Statement (.rampInstant f) :=
  requestForm_of_event rfl

theorem RequestForm.startLimitExpiry (f : Fin 4) : RequestForm.Statement (.startLimitExpiry f) :=
  requestForm_of_event rfl

theorem RequestForm.verifyWindowExpiry (f : Fin 4) : RequestForm.Statement (.verifyWindowExpiry f) :=
  requestForm_of_event rfl

theorem RequestForm.faultInputChange (f : Fin 4) (asserted : Bool) : RequestForm.Statement (.faultInputChange f asserted) :=
  requestForm_of_event rfl

theorem RequestForm.coastConditionsMet (f : Fin 4) : RequestForm.Statement (.coastConditionsMet f) :=
  requestForm_of_event rfl

theorem RequestForm.creditRegeneration (f : Fin 4) : RequestForm.Statement (.creditRegeneration f) :=
  requestForm_of_event rfl

theorem RequestForm.acceptedEdge (f : Fin 4) (high : Bool) (samples : Nat) : RequestForm.Statement (.acceptedEdge f high samples) :=
  requestForm_of_event rfl

theorem RequestForm.tachTimeout (f : Fin 4) : RequestForm.Statement (.tachTimeout f) :=
  requestForm_of_event rfl

theorem RequestForm.encoderEdge (d : Fin 2) (edge : QuadEdge) : RequestForm.Statement (.encoderEdge d edge) :=
  requestForm_of_event rfl

theorem RequestForm.endStopChange (d : Fin 2) (stop : EndStop) (asserted : Bool) : RequestForm.Statement (.endStopChange d stop asserted) :=
  requestForm_of_event rfl

theorem RequestForm.safetyEdgeChange (d : Fin 2) (asserted : Bool) : RequestForm.Statement (.safetyEdgeChange d asserted) :=
  requestForm_of_event rfl

theorem RequestForm.presenceChange (d : Fin 2) (asserted : Bool) : RequestForm.Statement (.presenceChange d asserted) :=
  requestForm_of_event rfl

theorem RequestForm.escapeButtonPress (d : Fin 2) (side : EscapeSide) (pressed : Bool) : RequestForm.Statement (.escapeButtonPress d side pressed) :=
  requestForm_of_event rfl

theorem RequestForm.serviceButtonPress (d : Fin 2) (dir : DoorDir) : RequestForm.Statement (.serviceButtonPress d dir) :=
  requestForm_of_event rfl

theorem RequestForm.serviceButtonRelease (d : Fin 2) (dir : DoorDir) : RequestForm.Statement (.serviceButtonRelease d dir) :=
  requestForm_of_event rfl

theorem RequestForm.settleExpiry (d : Fin 2) : RequestForm.Statement (.settleExpiry d) :=
  requestForm_of_event rfl

theorem RequestForm.travelTimeout (d : Fin 2) : RequestForm.Statement (.travelTimeout d) :=
  requestForm_of_event rfl

theorem RequestForm.holdOpenExpiry (d : Fin 2) : RequestForm.Statement (.holdOpenExpiry d) :=
  requestForm_of_event rfl

theorem RequestForm.reopenExpiry (d : Fin 2) : RequestForm.Statement (.reopenExpiry d) :=
  requestForm_of_event rfl

theorem RequestForm.reliefTimeout (d : Fin 2) : RequestForm.Statement (.reliefTimeout d) :=
  requestForm_of_event rfl

theorem RequestForm.blindReliefExpiry (d : Fin 2) : RequestForm.Statement (.blindReliefExpiry d) :=
  requestForm_of_event rfl

theorem RequestForm.startDelayExpiry (f : Fin 4) : RequestForm.Statement (.startDelayExpiry f) :=
  requestForm_of_event rfl

theorem RequestForm.linkTimeout : RequestForm.Statement .linkTimeout :=
  requestForm_of_event rfl

theorem RequestForm.stopAsserted : RequestForm.Statement .stopAsserted :=
  requestForm_of_event rfl

theorem RequestForm.stopReleased : RequestForm.Statement .stopReleased :=
  requestForm_of_event rfl

theorem RequestForm.escapeAsserted : RequestForm.Statement .escapeAsserted :=
  requestForm_of_event rfl

theorem RequestForm.escapeReleased : RequestForm.Statement .escapeReleased :=
  requestForm_of_event rfl

theorem RequestForm.maintAsserted : RequestForm.Statement .maintAsserted :=
  requestForm_of_event rfl

theorem RequestForm.maintReleased : RequestForm.Statement .maintReleased :=
  requestForm_of_event rfl

theorem RequestForm.rxGapTimeout : RequestForm.Statement .rxGapTimeout :=
  requestForm_of_event rfl

theorem RequestForm.invalidFrame (flaw : FrameFlaw) : RequestForm.Statement (.invalidFrame flaw) :=
  requestForm_of_event rfl

theorem RequestForm.unknownKind (dest : Byte) (kind : Byte) (payload : List Byte) : RequestForm.Statement (.unknownKind dest kind payload) := by
  intro k d p h hi
  obtain ⟨rfl, rfl, rfl⟩ : kind = k ∧ dest = d ∧ payload = p := by simpa [requestParts] using h
  have hi : unknownKindOk kind = true ∧ payloadOk payload = true := by simpa [Instr.wellFormed] using hi
  exact ⟨requestOf_unknown kind dest payload hi.1, by simpa [payloadOk] using hi.2⟩

theorem RequestForm.replySent (phase : SendPhase) : RequestForm.Statement (.replySent phase) :=
  requestForm_of_event rfl

theorem RequestForm.replyCancelled : RequestForm.Statement .replyCancelled :=
  requestForm_of_event rfl

theorem RequestForm.enumStart (dest : Byte) (payload : List Byte) : RequestForm.Statement (.enumStart dest payload) :=
  requestForm_of_kind rfl rfl rfl

theorem RequestForm.enumProbe (dest : Byte) (payload : List Byte) : RequestForm.Statement (.enumProbe dest payload) :=
  requestForm_of_kind rfl rfl rfl

theorem RequestForm.enumAssign (dest : Byte) (payload : List Byte) : RequestForm.Statement (.enumAssign dest payload) :=
  requestForm_of_kind rfl rfl rfl

theorem RequestForm.enumEnd (dest : Byte) (payload : List Byte) : RequestForm.Statement (.enumEnd dest payload) :=
  requestForm_of_kind rfl rfl rfl

theorem RequestForm.identify (dest : Byte) (payload : List Byte) : RequestForm.Statement (.identify dest payload) :=
  requestForm_of_kind rfl rfl rfl

theorem RequestForm.status (dest : Byte) (payload : List Byte) : RequestForm.Statement (.status dest payload) :=
  requestForm_of_kind rfl rfl rfl

theorem RequestForm.readChannel (dest : Byte) (payload : List Byte) : RequestForm.Statement (.readChannel dest payload) :=
  requestForm_of_kind rfl rfl rfl

theorem RequestForm.readFan (dest : Byte) (payload : List Byte) : RequestForm.Statement (.readFan dest payload) :=
  requestForm_of_kind rfl rfl rfl

theorem RequestForm.readDoor (dest : Byte) (payload : List Byte) : RequestForm.Statement (.readDoor dest payload) :=
  requestForm_of_kind rfl rfl rfl

theorem RequestForm.getParam (dest : Byte) (payload : List Byte) : RequestForm.Statement (.getParam dest payload) :=
  requestForm_of_kind rfl rfl rfl

theorem RequestForm.setParam (dest : Byte) (payload : List Byte) : RequestForm.Statement (.setParam dest payload) :=
  requestForm_of_kind rfl rfl rfl

theorem RequestForm.save (dest : Byte) (payload : List Byte) : RequestForm.Statement (.save dest payload) :=
  requestForm_of_kind rfl rfl rfl

theorem RequestForm.saveComplete (agrees : Bool) : RequestForm.Statement (.saveComplete agrees) :=
  requestForm_of_event rfl

theorem RequestForm.lock (dest : Byte) (payload : List Byte) : RequestForm.Statement (.lock dest payload) :=
  requestForm_of_kind rfl rfl rfl

theorem RequestForm.setActive (dest : Byte) (payload : List Byte) : RequestForm.Statement (.setActive dest payload) :=
  requestForm_of_kind rfl rfl rfl

theorem RequestForm.setScenario (dest : Byte) (payload : List Byte) : RequestForm.Statement (.setScenario dest payload) :=
  requestForm_of_kind rfl rfl rfl

theorem RequestForm.getScenario (dest : Byte) (payload : List Byte) : RequestForm.Statement (.getScenario dest payload) :=
  requestForm_of_kind rfl rfl rfl

theorem RequestForm.setMode (dest : Byte) (payload : List Byte) : RequestForm.Statement (.setMode dest payload) :=
  requestForm_of_kind rfl rfl rfl

theorem RequestForm.fanSet (dest : Byte) (payload : List Byte) : RequestForm.Statement (.fanSet dest payload) :=
  requestForm_of_kind rfl rfl rfl

theorem RequestForm.fanClear (dest : Byte) (payload : List Byte) : RequestForm.Statement (.fanClear dest payload) :=
  requestForm_of_kind rfl rfl rfl

theorem RequestForm.resume (dest : Byte) (payload : List Byte) : RequestForm.Statement (.resume dest payload) :=
  requestForm_of_kind rfl rfl rfl

theorem RequestForm.demandFloor (dest : Byte) (payload : List Byte) : RequestForm.Statement (.demandFloor dest payload) :=
  requestForm_of_kind rfl rfl rfl

theorem RequestForm.arm (dest : Byte) (payload : List Byte) : RequestForm.Statement (.arm dest payload) :=
  requestForm_of_kind rfl rfl rfl

theorem RequestForm.disarm (dest : Byte) (payload : List Byte) : RequestForm.Statement (.disarm dest payload) :=
  requestForm_of_kind rfl rfl rfl

theorem RequestForm.engage (dest : Byte) (payload : List Byte) : RequestForm.Statement (.engage dest payload) :=
  requestForm_of_kind rfl rfl rfl

theorem RequestForm.engageNow (dest : Byte) (payload : List Byte) : RequestForm.Statement (.engageNow dest payload) :=
  requestForm_of_kind rfl rfl rfl

theorem RequestForm.doorTravel (dest : Byte) (payload : List Byte) : RequestForm.Statement (.doorTravel dest payload) :=
  requestForm_of_kind rfl rfl rfl

theorem RequestForm.doorAbort (dest : Byte) (payload : List Byte) : RequestForm.Statement (.doorAbort dest payload) :=
  requestForm_of_kind rfl rfl rfl

theorem RequestForm.doorEscape (dest : Byte) (payload : List Byte) : RequestForm.Statement (.doorEscape dest payload) :=
  requestForm_of_kind rfl rfl rfl

theorem RequestForm.poll (dest : Byte) (payload : List Byte) : RequestForm.Statement (.poll dest payload) :=
  requestForm_of_kind rfl rfl rfl

theorem RequestForm.reset (dest : Byte) (payload : List Byte) : RequestForm.Statement (.reset dest payload) :=
  requestForm_of_kind rfl rfl rfl

theorem RequestForm.startByte (char : Byte) : RequestForm.Statement (.startByte char) :=
  requestForm_of_event rfl

theorem RequestForm.framingError : RequestForm.Statement .framingError :=
  requestForm_of_event rfl

end Sys2Proof.Laws
end

