-- ==== Sys2Proof/Tests/Slice0.lean ====
section
/-! SUPPORT. Tests: the checks of `WellFormed`, the worked figures of the spec, one-step tests of commands, and a concrete
state for the hypotheses of every statement that has some. -/

open Sys2Proof Sys2Proof.Machine

namespace Sys2Proof.Tests

/-! ### Small states -/

/-- The part right after reset, one of its blocks replaced. -/
def withFan0 (x : Fan) : State := State.reset.withFan 0 x
def withDoor0 (x : Door) : State := State.reset.withDoor 0 x
def withChannel0 (x : Channel) : State := State.reset.withChannel 0 x
def inMode (m : Mode) (s : State) : State := s.withModes { s.modes with mode := m }

def fanAt (st : FanState) : Fan := { Fan.atReset with state := st }
def doorAt (st : DoorState) (position : Int) : Door := { Door.atReset with state := st, position := position, homed := true }

def opening : Travel :=
  { dir := .toOpen, mode := .full, given := none, target := some 4000, reason := .supervisory, forced := false }
def closing : Travel := { opening with dir := .toClose, target := some 0 }

def movingDoor (st : DoorState) (position : Int) (t : Travel) : Door :=
  { doorAt st position with travel := some t, travelTimer := some 0 }

/-- Fan 0 holds the one grant, with its start-phase timer at so many ms. -/
def holdsGrant (ms : Nat) : State :=
  { withFan0 { fanAt .starting with target := ⟨.fwd, 300⟩, modeTarget := ⟨.fwd, 300⟩, startTimer := some ms } with
    arbiter := { holders := [0], waiting := Vector.replicate 4 false, suspended := [], rotation := some 0, urgency := false } }

def pinsClear : Pins :=
  { fault := Vector.replicate 4 false, tach := Vector.replicate 4 false, doors := Vector.replicate 2 doorPinsClear, stop := false, escape := false,
    maint := false }

/-- A property of the state a command leads to. -/
def afterwards (i : Instr) (s : State) (p : State → Bool) : Bool :=
  match exec i s with
  | .next t => p t
  | .fault _ => false
  | .refused _ => false

/-! ### WellFormed -/

theorem test_long_payload_refused : (Instr.poll 1 (List.replicate 97 0)).wellFormed = false := by decide
theorem test_longest_payload_accepted : (Instr.poll 1 (List.replicate 96 0)).wellFormed = true := by decide
theorem test_known_kind_is_not_unknown : (Instr.unknownKind 1 0x60 []).wellFormed = false := by decide
theorem test_unknown_kind_with_long_payload_refused :
    (Instr.unknownKind 1 0x61 (List.replicate 97 0)).wellFormed = false := by decide
theorem test_edge_without_samples_refused : (Instr.acceptedEdge 0 true 0).wellFormed = false := by decide
theorem test_table_word_spells_nothing : decodeTableWord 16 0x1234 = none := rfl

/-! ### Worked figures of the spec -/

/-- R156: the CRC over "123456789". -/
theorem test_crc_of_the_nine_digits : crc16 [0x31, 0x32, 0x33, 0x34, 0x35, 0x36, 0x37, 0x38, 0x39] = 0x29B1 := by
  decide +kernel

/-- R3: 7.41875 mA is raw code 1187, 25 mA and more are 4000. -/
theorem test_raw_codes : rawCodeOf 7419 = 1187 ∧ rawCodeOf 25000 = 4000 ∧ rawCodeOf 100000 = 4000 := by decide

/-- R4: the two limits of the loop check. -/
theorem test_loop_limits : loopFault 575 = some .loopLow ∧ loopFault 576 = none ∧ loopFault 3360 = none ∧
    loopFault 3361 = some .loopHigh := by decide

/-- The worked figures of section 1.5. -/
theorem test_calibration_figures :
    calibrate ⟨.co, 640, 4800, 8⟩ 1187 = 641 ∧ calibrate ⟨.co, 640, 4800, 8⟩ 3200 = 3000 ∧
    calibrate ⟨.dpress, 1920, 1600, 8⟩ 1900 = -8 ∧ calibrate ⟨.dpress, 1920, 1600, 8⟩ 640 = -500 ∧
    clampToKind .co (calibrate ⟨.co, 640, 4800, 8⟩ 600) = 0 ∧
    clampToKind .generic (calibrate ⟨.generic, 0, 65535, 8⟩ 4000) = 32767 := by decide

/-- The worked figures of section 1.6, and a mean of an odd negative sum, rounded toward +∞ (R14). -/
theorem test_window_means :
    meanOf 1293 2 = 647 ∧ meanOf 1953 3 = 651 ∧ meanOf 2608 4 = 652 ∧ meanOf 2637 4 = 659 ∧ meanOf (-7) 2 = -3 := by
  decide

/-- The worked figures of section 4.2. -/
theorem test_rpm_figures :
    rpmOf 4 2 48000 = 2500 ∧ rpmOf 4 2 48020 = 2498 ∧ rpmOf 1 2 12020 = 2495 := by decide

/-- The table of R72. -/
theorem test_pass_marks :
    passMark .factory 10000 = 1160 ∧ passMark .factory 6000 = 696 ∧ passMark .factory 3000 = 348 ∧
    passMark { FanSettings.factory with tolerance := 5 } 3000 = 413 ∧ passMark .factory 9 = 0 := by decide

/-- The ramps of section 3.5: the last step stops at the aim, in both directions. -/
theorem test_ramp_steps :
    rampStep { FanSettings.factory with rampUp := 70 } 2450 2500 = 2500 ∧ rampStep .factory 4600 4000 = 4500 ∧
    rampStep .factory 4100 4000 = 4000 := by decide

/-- The frame of POLL to station 5 from station 0 reads back as the request, its CRC bytes taken high first. -/
theorem test_poll_frame_decodes :
    frameCommand [0xB6, 0x05, 0x00, 0x60, 0x00,
      byteOf ((crc16 [0x05, 0x00, 0x60, 0x00]).toNat / 256), byteOf (crc16 [0x05, 0x00, 0x60, 0x00]).toNat] =
      some (.poll 0x05 []) := by decide +kernel

theorem test_wrong_crc_is_discarded :
    frameCommand [0xB6, 0x05, 0x00, 0x60, 0x00, 0x00, 0x00] = some (.invalidFrame .badCrc) := by decide +kernel

theorem test_over_length_is_discarded :
    frameCommand [0xB6, 0x05, 0x00, 0x60, 97] = some (.invalidFrame .overLength) := by decide

/-! ### One command -/

/-- A saturated queue sets the marker, and the 33rd record is lost (R170). -/
theorem test_full_queue_overflows :
    let q : ReportQueue := { records := List.replicate 32 { stamp := 0, unit := 0, data := .store false },
                             overflow := false, timeBase := 7 }
    (q.arrive 1 .channelRecovered).records.length = 32 ∧ (q.arrive 1 .channelRecovered).overflow = true := by decide

/-- The time base wraps (R169). -/
theorem test_time_base_wraps :
    (tickReports { records := [], overflow := false, timeBase := 0xFFFFFFFF }).timeBase = 0 := by decide

/-- The sample instant of a faulted loop at the last sample of its fault persistence brings the substitute level. -/
theorem test_fault_persistence :
    afterwards (.sampleInstant 0 3000) (withChannel0 { Channel.atReset with faultRun := 19 })
      (fun t => (t.channel 0).state == .fault && (t.channel 0).level == 2 && (t.channel 0).faultRun == 20) = true := by
  decide

/-- A CO average at the threshold counts as reached (R25), and its persistence of 1 raises the level at once. -/
theorem test_level_rises_at_the_threshold :
    afterwards (.sampleInstant 0 7419)
      ((withChannel0 { Channel.atReset with inForce := ⟨.co, 640, 4800, 4⟩, slots := List.replicate 4 0 }).withChannelCfg 0
        { ChannelSettings.factory with kind := .co, span := 4800, window := 4, t1 := 641, upPersistence := 1 })
      (fun t => (t.channel 0).level == 1 && (t.channel 0).average == some 641) = true := by decide

/-- The 36th ramp instant of the worked figure reaches 2500 and the tach-less fan enters RUNNING. -/
theorem test_start_done :
    afterwards (.rampInstant 0)
      (({ withFan0 { fanAt .starting with target := ⟨.fwd, 250⟩, reference := 2450, startTimer := some 3500 } with
          arbiter := { holders := [0], waiting := Vector.replicate 4 false, suspended := [], rotation := some 0,
                       urgency := false } }).withFanCfg 0 { FanSettings.factory with rampUp := 70, pulsesPerRev := 0 })
      (fun t => (t.fan 0).state == .running && (t.fan 0).reference == 2500 && t.arbiter.holders.isEmpty) = true := by
  decide

/-- The fault input trips a running fan, and a trip of a tripped fan's input changes no count. -/
theorem test_drive_fault_trips :
    afterwards (.faultInputChange 0 true) (withFan0 { fanAt .running with reference := 3000 })
      (fun t => (t.fan 0).state == .tripped && (t.fan 0).reference == 0 && (t.fan 0).tripCount == 1) = true := by decide

/-- A locked door unlocks for the tunnel button, with the escape travel to the open position current. -/
theorem test_escape_button_unlocks :
    afterwards (.escapeButtonPress 0 .tunnel true) (withDoor0 (doorAt .closedLocked 0))
      (fun t => (t.door 0).state == .unlocking && (t.door 0).escape.tunnelButton && (t.door 0).settle == some 0) = true := by
  decide

/-- The safety edge at 2500 reverses an auto-reclose and draws one retry (section 6.13). -/
theorem test_obstructed_reclose_reverses :
    afterwards (.safetyEdgeChange 0 true) (withDoor0 (movingDoor .closing 2500 { closing with reason := .autoReclose }))
      (fun t => (t.door 0).state == .opening && (t.door 0).retry == 2 && !(t.door 0).recloseSuspended) = true := by
  decide +kernel

/-- An encoder edge at the top of the position's range leaves it there (R95). -/
theorem test_position_saturates :
    afterwards (.encoderEdge 0 .towardOpen) (withDoor0 { doorAt .fault 32767 with homed := false })
      (fun t => (t.door 0).position == 32767) = true := by decide +kernel

/-- SET_PARAM of the slot count to 3 is refused, to 2 accepted (section 12.1). -/
theorem test_slot_count_range :
    afterwards (.setParam 1 [0, 1, 0, 3]) State.reset (fun t => t.ctl.slotCount == 1) = true ∧
    afterwards (.setParam 1 [0, 1, 0, 2]) State.reset (fun t => t.ctl.slotCount == 2) = true := by
  constructor <;> decide +kernel

/-- ENGAGE with a tag that is not armed engages nothing and reports ENGAGE_MISSED (R143). -/
theorem test_engage_missed :
    afterwards (.engage broadcast [9])
      (State.reset.withModes { State.reset.modes with armed := some { scenario := 4, tag := 8 } })
      (fun t => t.modes.mode == .auto && t.reports.records.length == 2) = true := by decide +kernel

/-- A power-on reset with no strap and no stored station leaves the part without a station. -/
theorem test_power_on_without_straps :
    afterwards (.powerOnReset ⟨0, 2⟩ pinsClear) State.reset
      (fun t => t.line.station == none && t.line.bitRate == .b38400 && t.line.bitRate.bitsPerSecond == 38400 && t.line.source == .unassigned) = true := by decide +kernel

/-- A filter of 4: the third sample off the accepted level only counts, the fourth is the accepted edge, which counts (R66). -/
theorem test_filter_counts_samples :
    afterwards (.acceptedEdge 0 true 3) State.reset
      (fun t => !(t.fan 0).tach.level && (t.fan 0).tach.disagreement == 3 && (t.fan 0).tach.pin) = true ∧
    afterwards (.acceptedEdge 0 true 4) State.reset
      (fun t => (t.fan 0).tach.level && (t.fan 0).tach.disagreement == 0 && (t.fan 0).tach.periodAge == some 0) = true := by
  decide

/-- A homing travel homed on the way makes no TARGET_REACHED test within the tolerance of 0 (R110). -/
theorem test_homing_makes_no_target_test :
    afterwards (.encoderEdge 0 .towardClose) (withDoor0 (movingDoor .closing 5 { closing with reason := .homing }))
      (fun t => (t.door 0).state == .closing && (t.door 0).position == 4) = true ∧
    afterwards (.encoderEdge 0 .towardClose) (withDoor0 (movingDoor .closing 11 closing))
      (fun t => (t.door 0).state == .closedLocked) = true := by
  constructor <;> decide +kernel

/-- A relief timeout lowered below the time run ends relief at the next step of 100 ms (R122). -/
theorem test_lowered_relief_timeout_ends_at_the_next_step :
    afterwards (.reliefTimeout 0)
      ((withDoor0 { movingDoor .relieving 0 opening with
          travelTimer := none, reliefTimer := some 2499, reliefChannel := some 0, observedUsable := true }).withDoorCfg 0
        { DoorSettings.factory with reliefTimeout := 1 })
      (fun t => t.reports.records.any fun r => r.data == .relief .timeout 25 none) = true := by decide +kernel

/-- The last CRC byte of a POLL frame completes it, and its reply is composed; while a reply goes out no character is taken. -/
theorem test_last_character_dispatches :
    let frame := frameBytes 1 0 0x60 []
    let s := State.reset.withLine { State.reset.line with receiver := .receiving (frame.take 6) }
    afterwards (.startByte (frame.getD 6 0)) s
      (fun t => t.line.receiver == .hunt && t.line.reply.isSome && t.reports.records.isEmpty) = true ∧
    afterwards (.startByte (frame.getD 6 0)) (s.withLine { s.line with transmitting := true })
      (fun t => t.line.receiver == s.line.receiver) = true := by
  constructor <;> decide +kernel

/-- An opening stopped by the edge starts the reopen timer, also where the record in the slot ends at once (R104). -/
theorem test_reopen_timer_after_the_slot :
    let stopped := { movingDoor .opening 2500 { opening with reason := .escape } with
      escape := { EscapeSet.empty with supervisory := true } }
    afterwards (.safetyEdgeChange 0 true) (withDoor0 stopped)
      (fun t => (t.door 0).state == .halted && (t.door 0).reopen == some 0) = true ∧
    afterwards (.safetyEdgeChange 0 true)
      (withDoor0 { stopped with slot := some { closing with given := some 2500, target := none } })
      (fun t => (t.door 0).state == .halted && (t.door 0).reopen == some 0 && (t.door 0).slot == none) = true := by
  constructor <;> decide +kernel

/-- The urgency that a door brought ends with its switch-off, before the recomposed fan is served (R83, R116). -/
theorem test_switched_off_door_is_not_urgent :
    let s := (((withDoor0 { movingDoor .relieving 0 opening with
        travelTimer := none, reliefTimer := some 0, reliefChannel := some 0,
        escape := { EscapeSet.empty with supervisory := true } }).withCtl
      { ControllerSettings.factory with pressFan := some 1 }).withFanCfg 1
        { FanSettings.factory with standby := 300, relief := 0 })
    let s := (s.withFan 1 { fanAt .off with modeTarget := ⟨.fwd, 300⟩ }).withFan 0 { fanAt .starting with startTimer := some 0 }
    afterwards (.setActive 1 [13, 0]) { s with arbiter := { State.reset.arbiter with holders := [0], urgency := true } }
      (fun t => !t.arbiter.urgency && t.arbiter.holders == [0] && (t.fan 1).state == .awaitGrant) = true := by
  decide +kernel

/-! ### Witnesses: a state and operands for the hypotheses of each statement, clause by clause -/

theorem ready_of {s : State} (hr : s.line.reply = none) (hq : s.line.resetRequested = false)
    (hl : s.modes.lineLost = false) (hs : s.line.station = some 1) (ht : s.line.transmitting = false) : Ready s 1 :=
  ⟨⟨hr, hq, hl, ht⟩, by decide, hs⟩

theorem clearToOpen_of {cfg : DoorSettings} {x : Door} {t : Travel} {p : Int} (hp : t.target = some p)
    (h : x.inputs.openStop = false ∧ x.inputs.safetyEdge = false ∧ 1 ≤ cfg.travelLimit ∧
      x.position < p - cfg.tolerance ∧ t.mode = .full) : ClearToOpen cfg x t := by
  refine ⟨h.1, h.2.1, h.2.2.1, fun _ q hq => ?_, fun hm => ?_⟩
  · rw [hp] at hq; cases hq; exact h.2.2.2.1
  · rw [h.2.2.2.2] at hm; cases hm

/-- A travel of a homed door, on its way, its travel timer just started. -/
theorem goesOn_of {cfg : DoorSettings} {x : Door} {t : Travel} {p : Int} (hp : t.target = some p) (hx : x.travelTimer = some 0)
    (h : (match t.dir with
        | .toOpen => x.inputs.openStop
        | .toClose => x.inputs.closedStop) = false ∧ t.mode = .full ∧ 1 ≤ cfg.travelLimit ∧
      (t.dir = .toOpen → x.position < p - cfg.tolerance) ∧ (t.dir = .toClose → p + cfg.tolerance < x.position)) :
    GoesOn cfg x t where
  endStop := h.1
  target := fun _ _ q hq => by rw [hp] at hq; cases hq; exact h.2.2.2
  held := fun hm => by rw [h.2.1] at hm; cases hm
  timer := fun ms hm => by rw [hx] at hm; cases hm; have := h.2.2.1; omega

theorem clearToClose_of {cfg : DoorSettings} {x : Door} {t : Travel} {p : Int} (hp : t.target = some p)
    (h : x.inputs.closedStop = false ∧ x.inputs.safetyEdge = false ∧ 1 ≤ cfg.travelLimit ∧
      p + cfg.tolerance < x.position ∧ (t.mode = .hold → x.inputs.serviceClose = true)) : ClearToClose cfg x t :=
  ⟨h.1, h.2.1, h.2.2.1, fun _ q hq => by rw [hp] at hq; cases hq; exact h.2.2.2.1, h.2.2.2.2⟩

/-- A door 100 ms into an opening that was raised to an escape travel after the open position was lowered behind it. -/
def raisedBehind (ms : Nat) : State :=
  withDoor0 { movingDoor .opening 3990 (currentEscape .factory) with travelTimer := some ms }

/-- The step of the travel timer ends a travel whose target lies behind the door, and no step before it does (R99). -/
theorem test_travel_timer_step_tests_the_target :
    (Expiry.due (raisedBehind 100) (.travelStep 0) = true ∧ Expiry.due (raisedBehind 99) (.travelStep 0) = false) ∧
    (let t := Expiry.take (.travelStep 0) (raisedBehind 100)
     (t.door 0).state = .isOpen ∧ (t.door 0).travel = none) := by
  decide +kernel

/-- No expiry due, one alone due that has a row, an end of relief alone due at its step, and a step of the travel timer alone
due; a travel that goes on, and a timer between two steps. -/
theorem witness_IdleStepPassesOneMillisecond :
    (State.reset.pending = [] ∧ ∀ e, Expiry.due (advanceTimers State.reset) e = false) ∧
    (let s := withFan0 { Fan.atReset with tach := { Tach.atReset with pin := true } }
     ∀ e ∈ allExpiries, Expiry.due (advanceTimers s) e = decide (e = .edge 0)) ∧
    (let s := withDoor0 { movingDoor .relieving 0 opening with
       travelTimer := none, reliefTimer := some 7999, reliefChannel := some 0, observedUsable := true }
     (∀ e ∈ allExpiries, Expiry.due (advanceTimers s) e = decide (e = .relief 0)) ∧
       ((advanceTimers s).door 0).reliefTimer = some 8000 ∧ ((advanceTimers s).door 0).travel = some opening ∧
       opening.dir = .toOpen) ∧
    (∀ e ∈ allExpiries, Expiry.due (advanceTimers (raisedBehind 99)) e = decide (e = .travelStep 0)) ∧
    TargetMet .factory ((advanceTimers (raisedBehind 99)).door 0) (currentEscape .factory) ∧
    GoesOn .factory (movingDoor .opening 3989 opening) opening ∧
    ((advanceTimers (raisedBehind 98)).door 0).travelTimer = some 99 ∧
    ∀ e : Expiry, e ∈ allExpiries := by
  refine ⟨⟨rfl, fun e => ?_⟩, by decide +kernel, by decide +kernel, by decide +kernel,
    ⟨rfl, by decide, 4000, rfl, .inl (by decide +kernel)⟩, goesOn_of (p := 4000) rfl rfl (by decide), rfl, fun e => ?_⟩ <;> cases e <;> first
    | decide
    | (rename_i f; revert f; decide)

theorem witness_PowerOnResetLoadsTheStore :
    State.reset.store.snapshot = none ∧ (∃ straps : Straps, straps.station ≠ 0) ∧
    (∃ t, exec (.powerOnReset ⟨0, 0⟩ pinsClear) State.reset = .next t ∧ t.ctl.enumStation = 0) ∧
    ∃ t, exec (.powerOnReset ⟨0, 0⟩ pinsClear) { State.reset with store := { State.reset.store with
      checkError := 0
      stored := { Settings.factory with controller := { ControllerSettings.factory with enumStation := 32 } } } } = .next t ∧
      t.ctl.enumStation ≠ 0 :=
  ⟨rfl, ⟨⟨1, 0⟩, by decide⟩, ⟨_, rfl, by decide +kernel⟩, ⟨_, rfl, by decide +kernel⟩⟩

def resetDue : State := State.reset.withLine { State.reset.line with resetRequested := true }

theorem witness_WarmResetReloadsAndKeeps :
    State.reset.line.resetRequested = false ∧ resetDue.line.resetRequested = true ∧ resetDue.store.snapshot = none := by
  decide

theorem witness_WarmResetKeepsCreditsAndJudgesDoors :
    resetDue.line.resetRequested = true ∧
    (∃ t, exec (.warmReset pinsClear) resetDue = .next t ∧ (t.doorCfg 0).active = true ∧ (resetDue.door 0).homed = false) ∧
    (∃ s : State, s.line.resetRequested = true ∧ (s.door 0).homed = true ∧ travelling (s.door 0).state = true) ∧
    (∃ s : State, s.line.resetRequested = true ∧ (s.door 0).homed = true ∧ travelling (s.door 0).state = false) :=
  ⟨by decide, ⟨_, rfl, by decide +kernel⟩, ⟨resetDue.withDoor 0 (doorAt .opening 11), by decide⟩,
    ⟨resetDue.withDoor 0 (doorAt .halted 10), by decide⟩⟩

theorem witness_SampleWithoutAValue :
    (∃ s : State, (s.channel 0).state = .inactive ∧
      ∀ d, (s.door d).state = .relieving → (s.door d).reliefChannel ≠ some 0) ∧
    ((State.reset.channel 0).state ≠ .inactive ∧ (State.reset.channel 0).inForce = configOf (State.reset.channelCfg 0) ∧
      min 4000 (160 * 3594 / 1000) = 575 ∧ min 4000 (160 * 21007 / 1000) = 3361) ∧
    (∃ s : State, (s.channel 0).state ≠ .inactive ∧ (s.channel 0).state ≠ .fault ∧
      (s.channel 0).inForce = configOf (s.channelCfg 0) ∧
      (s.channelCfg 0).faultPersistence ≤ min 255 ((s.channel 0).faultRun + 1)) ∧
    ∀ st ∈ [ChannelState.warming, .valid, .fault], ∀ n ∈ [0, 19],
      let s := withChannel0 { Channel.atReset with state := st, faultRun := n, inForce := ⟨.co, 640, 4096, 4⟩ }
      (s.channel 0).state = st ∧ (s.channel 0).faultRun = n ∧ (s.channel 0).inForce ≠ configOf (s.channelCfg 0) :=
  ⟨⟨withChannel0 { Channel.atReset with state := .inactive }, by decide⟩, by decide,
    ⟨withChannel0 { Channel.atReset with faultRun := 19 }, by decide⟩, by decide⟩

/-- Both ends of the valid range, and the first and the last place of the window. -/
theorem witness_ValidSampleEntersTheWindow :
    ((State.reset.channel 0).state = .warming ∧ (State.reset.channel 0).inForce = configOf (State.reset.channelCfg 0) ∧
      576 ≤ min 4000 (160 * 3600 / 1000) ∧ min 4000 (160 * 21000 / 1000) ≤ 3360) ∧
    ∃ s : State, (s.channel 0).state = .valid ∧ (s.channel 0).fill = (s.channel 0).inForce.window ∧
      (s.channel 0).inForce = configOf (s.channelCfg 0) :=
  ⟨by decide, ⟨withChannel0 { Channel.atReset with state := .valid, fill := 8, average := some 0 }, by decide⟩⟩

theorem witness_ValidSampleStartsTheWindowAfresh :
    (∃ s : State, (s.channel 0).state = .fault ∧ 1 ≤ (configOf (s.channelCfg 0)).window ∧
      576 ≤ min 4000 (160 * 3600 / 1000) ∧ min 4000 (160 * 3600 / 1000) ≤ 3360) ∧
    ∃ s : State, (s.channel 0).state ≠ .inactive ∧ (s.channel 0).inForce ≠ configOf (s.channelCfg 0) ∧
      1 ≤ (configOf (s.channelCfg 0)).window :=
  ⟨⟨withChannel0 { Channel.atReset with state := .fault }, by decide⟩,
    ⟨State.reset.withChannelCfg 0 { ChannelSettings.factory with window := 1 }, by decide⟩⟩

/-- A level that rises at its threshold, and one that falls under it. -/
theorem witness_LevelFollowsTheAverage :
    (∃ s : State, (s.channel 0).state ≠ .inactive ∧ 576 ≤ min 4000 (160 * 3600 / 1000) ∧
      afterwards (.sampleInstant 0 3600) s (fun t => (t.channel 0).level == 1) = true) ∧
    (∃ s : State, (s.channelCfg 0).contributes = true) ∧
    ∃ s : State, (s.channel 0).state ≠ .inactive ∧
      afterwards (.sampleInstant 0 3600) s (fun t => (t.channel 0).level == 2) = true ∧ (s.channel 0).level = 3 :=
  ⟨⟨State.reset.withChannelCfg 0 { ChannelSettings.factory with t1 := -64, upPersistence := 1 }, by decide⟩,
    ⟨State.reset.withChannelCfg 0 { ChannelSettings.factory with contributes := true }, by decide⟩,
    ⟨(withChannel0 { Channel.atReset with level := 3 }).withChannelCfg 0 { ChannelSettings.factory with downPersistence := 1 },
      by decide⟩⟩

theorem witness_DemandFloorSetsTheStage :
    Ready State.reset 1 ∧
    (∃ t, exec (.demandFloor 1 [0]) State.reset = .next t ∧ t.demand.stage = State.reset.demand.stage) ∧
    (∃ s, Ready s 1 ∧ s.modes.mode ≠ .auto) ∧
    ∃ s t, Ready s 1 ∧ exec (.demandFloor 1 [3]) s = .next t ∧ t.demand.stage ≠ s.demand.stage :=
  ⟨ready_of rfl rfl rfl rfl rfl, ⟨_, rfl, by decide +kernel⟩, ⟨inMode .manual State.reset, ready_of rfl rfl rfl rfl rfl, by decide⟩,
    ⟨inMode .manual State.reset, _, ready_of rfl rfl rfl rfl rfl, rfl, by decide +kernel⟩⟩

theorem witness_RampInstantMovesTheReference :
    (withFan0 (fanAt .running)).fan 0 = fanAt .running ∧
    (∃ s : State, (s.fan 0).state = .running ∧ (s.fanCfg 0).pulsesPerRev ≠ 0 ∧
      ¬ (s.fanCfg 0).ratedRpm * 3000 / 10000 * (100 - (s.fanCfg 0).tolerance) / 100 ≤ (s.fan 0).tach.rpm ∧
      (s.fan 0).reference = 3000 ∧ (s.fan 0).target.speed = 300) ∧
    (∃ s : State, (s.fan 0).state = .starting ∧ 0 ∈ s.arbiter.holders ∧ (s.fan 0).reference = 0 ∧
      (s.fan 0).target.speed = 300) ∧
    (∃ s : State, (s.fan 0).state = .starting ∧ 0 ∉ s.arbiter.holders) ∧
    (∃ s : State, (s.fan 0).state = .stopping ∧ (s.fan 0).reference = 101 ∧ (s.fanCfg 0).rampDown = 100) ∧
    drives (State.reset.fan 0).state = false :=
  ⟨by decide, ⟨withFan0 { fanAt .running with reference := 3000, target := ⟨.fwd, 300⟩ }, by decide⟩,
    ⟨holdsGrant 0, by decide⟩, ⟨withFan0 (fanAt .starting), by decide⟩,
    ⟨withFan0 { fanAt .stopping with reference := 101 }, by decide⟩, by decide⟩

/-- A start phase that ends before its limit, one that ends at it, and a stop that ends. -/
theorem witness_RampInstantEndsAPhase :
    (∀ ms ∈ [0, 29900], let s := (holdsGrant ms).withFanCfg 0 { FanSettings.factory with rampUp := 1000, pulsesPerRev := 0 }
      let s := s.withFan 0 { s.fan 0 with target := ⟨.fwd, 100⟩ }
      (s.fan 0).state = .starting ∧ 0 ∈ s.arbiter.holders ∧
        (s.fan 0).target.speed * 10 ≤ (s.fan 0).reference + (s.fanCfg 0).rampUp ∧ (s.fanCfg 0).pulsesPerRev = 0) ∧
    (∃ s : State, (s.fan 0).state = .stopping ∧ (s.fan 0).reference = (s.fanCfg 0).rampDown) :=
  ⟨by decide, ⟨withFan0 { fanAt .stopping with reference := 100 }, by decide⟩⟩

/-- The start limit reached exactly, outside INCIDENT and in it; and 1 ms short of it. -/
theorem witness_StartLimitTripsOrRuns :
    (∀ m ∈ [Mode.auto, .incident], let s := inMode m (holdsGrant 30000)
      (s.fan 0).state = .starting ∧ 0 ∈ s.arbiter.holders ∧ (s.fan 0).limitUntested = false ∧
        (s.fan 0).startTimer = some 30000 ∧
        (s.fanCfg 0).startLimit * 1000 ≤ 30000 ∧ s.modes.mode = m) ∧
    ((holdsGrant 29999).fan 0).startTimer = some 29999 ∧
    (let s := (holdsGrant 30000).withFan 0 { (holdsGrant 30000).fan 0 with limitUntested := true }
     (s.fan 0).startTimer = some 30000 ∧ (s.fan 0).limitUntested = true) := by decide

/-- A fan re-granted with its timer at the limit trips at the next advance of the timer or at a write of the limit, not before
(R74). -/
theorem test_regrant_waits_for_the_limit :
    let s := (holdsGrant 30000).withFan 0 { (holdsGrant 30000).fan 0 with limitUntested := true }
    startLimitReached s 0 = false ∧ startLimitReached (rampInstant 0 s) 0 = true ∧
      ((startLimitWritten 0 s).fan 0).state = .tripped := by decide

theorem witness_VerifyWindowTripsOrReports :
    ∀ m ∈ [Mode.auto, .incident], ∀ noted ∈ [true, false],
      let s := inMode m (withFan0 { fanAt .running with verifyTimer := some 10000, stallNoted := noted })
      (s.fan 0).state = .running ∧ (s.fanCfg 0).pulsesPerRev ≠ 0 ∧ (s.fan 0).verifyTimer = some 10000 ∧
        (s.fanCfg 0).verifyWindow * 1000 ≤ 10000 ∧ s.modes.mode = m ∧ (s.fan 0).stallNoted = noted := by decide

theorem witness_FaultInputTrips :
    (∀ st ∈ [FanState.starting, .running, .stopping, .awaitGrant], ((withFan0 (fanAt st)).fan 0).state = st) ∧
    (State.reset.fan 0).state = .coasting ∧
    (let s := withFan0 (fanAt .tripped)
     (s.fan 0).state = .tripped ∧ ¬ (s.fanCfg 0).minDwell * 1000 ≤ (s.fan 0).offTime) := by decide

/-- A COASTING fan without a wish, with one under an asserted FAULT input, without credits, and free to start. -/
theorem witness_CoastingEndsInTheTarget :
    (withFan0 (fanAt .off)).fan 0 = fanAt .off ∧
    ((∀ f : Fin 4, State.reset.arbiter.waiting[f] = false) ∧ State.reset.arbiter.suspended = [] ∧
      State.reset.arbiter.holders.length < State.reset.ctl.slotCount) ∧
    (let s := (holdsGrant 100).withFan 1 (fanAt .coasting)
     s.arbiter.urgency = false ∧ s.ctl.slotCount ≤ s.arbiter.holders.length ∧ (s.fan 1).state = .coasting) ∧
    ∀ x ∈ [fanAt .coasting, { fanAt .coasting with target := ⟨.fwd, 1⟩, faultInput := true },
        { fanAt .coasting with target := ⟨.rev, 1000⟩, credits := 0 }, { fanAt .coasting with target := ⟨.rev, 1000⟩ }],
      let s := withFan0 x
      (s.fan 0).state = .coasting ∧ (s.fanCfg 0).inRange = true ∧ 0 ∉ s.arbiter.holders ∧
        s.arbiter.waiting[(0 : Fin 4)] = false ∧ 0 ∉ s.arbiter.suspended ∧ s.stop.asserted = false ∧
        (s.fan 0).target = x.target ∧ (s.fan 0).faultInput = x.faultInput ∧ (s.fan 0).credits = x.credits := by decide

/-- Below the trip limit without and with a wish, and at it; and a FAULT input still asserted. -/
theorem witness_TrippedEndsInOffOrLockedOut :
    (∃ s : State, (s.fan 0).state = .tripped ∧ (s.fan 0).faultInput = true) ∧
    ∀ x ∈ [{ fanAt .tripped with tripCount := 2, offTime := 90000 },
        { fanAt .tripped with tripCount := 2, offTime := 90000, target := ⟨.fwd, 300⟩ },
        { fanAt .tripped with tripCount := 2, offTime := 90000, target := ⟨.fwd, 300⟩, credits := 0 },
        { fanAt .tripped with tripCount := 3, offTime := 90000 }],
      let s := withFan0 x
      (s.fan 0).state = .tripped ∧ (s.fanCfg 0).inRange = true ∧ 0 ∉ s.arbiter.holders ∧
        s.arbiter.waiting[(0 : Fin 4)] = false ∧ 0 ∉ s.arbiter.suspended ∧ (s.fan 0).faultInput = false ∧
        (s.fanCfg 0).minDwell * 1000 ≤ (s.fan 0).offTime ∧ (s.fanCfg 0).coastLimit * 1000 ≤ (s.fan 0).offTime ∧
        (s.fan 0).tripCount = x.tripCount ∧ (s.fan 0).target = x.target :=
  ⟨⟨withFan0 { fanAt .tripped with faultInput := true }, by decide⟩, by decide⟩

theorem witness_CreditRegenerationAddsOne :
    (State.reset.fan 0).creditTimer = none ∧
    (∃ s : State, (s.fan 0).creditTimer ≠ none ∧ (s.fan 0).creditWait = false) ∧
    ∃ s : State, (s.fan 0).creditTimer ≠ none ∧ (s.fan 0).creditWait = true ∧ (s.fan 0).state = .awaitGrant ∧
      0 ∉ s.arbiter.holders ∧ s.arbiter.waiting[(0 : Fin 4)] = false ∧ 0 ∉ s.arbiter.suspended :=
  ⟨by decide, ⟨withFan0 { fanAt .off with credits := 5, creditTimer := some 600000 }, by decide⟩,
    ⟨withFan0 { fanAt .awaitGrant with credits := 0, creditTimer := some 0, creditWait := true }, by decide⟩⟩

def delayed (st : FanState) (e : FanEntry) : State :=
  let s := inMode .incident (withFan0 { fanAt st with target := ⟨.fwd, 300⟩, modeTarget := ⟨.fwd, 300⟩ })
  s.withModes { s.modes with engaged := 1, record := some { fans := [e], doors := [] },
                             delays := #v[.running 255000, .absent, .absent, .absent] }

theorem witness_StartDelayBringsTheEntry :
    (∀ ms, State.reset.modes.delays[(0 : Fin 4)] ≠ .running ms) ∧
    ∀ st ∈ [FanState.running, .starting, .off],
      let e : FanEntry := ⟨0, .rev, 1000, 255⟩
      let s := delayed st e
      s.modes.delays[(0 : Fin 4)] = .running 255000 ∧
        s.modes.record = some { fans := [e], doors := [] } ∧ s.modes.mode = .incident ∧ s.ctl.pressFan ≠ some 0 ∧
        (s.fan 0).state = st ∧ e.speed ≠ 0 ∧ e.dir ≠ (s.fan 0).latched ∧ (s.fan 0).target ≠ ⟨e.dir, e.speed⟩ := by
  refine ⟨fun ms h => ?_, by decide⟩
  cases (show Delay.absent = .running ms from h)

def slotContest (suspended : List (Fin 4)) : State :=
  { (holdsGrant 30000).withFan 1 { fanAt (if suspended = [] then .awaitGrant else .starting) with
      target := ⟨.fwd, 300⟩, reference := if suspended = [] then 0 else 100, startTimer := some 200 } with
    arbiter := { holders := [0], waiting := #v[false, suspended.isEmpty, false, false], suspended := suspended,
                 rotation := some 0, urgency := false } }

theorem witness_FreedSlotGoesToTheFirstRequest :
    (∀ l ∈ [[], [(1 : Fin 4)]], let s := slotContest l
      s.arbiter.holders = [0] ∧ s.ctl.slotCount = 1 ∧ s.arbiter.urgency = false ∧ s.modes.mode ≠ .incident ∧
        (s.fan 0).state = .starting ∧ (s.fan 0).startTimer = some 30000 ∧ (s.fanCfg 0).startLimit * 1000 ≤ 30000 ∧
        (s.fan 0).limitUntested = false ∧
        0 ∉ s.arbiter.suspended ∧ s.arbiter.waiting[(0 : Fin 4)] = false ∧ s.arbiter.suspended = l) ∧
    (slotContest []).arbiter.waiting[(1 : Fin 4)] = true ∧
    (∀ h : Fin 4, h.val < 1 → (slotContest []).arbiter.waiting[h] = false) ∧
    ((slotContest [1]).fan 1).reference ≠ ((slotContest [1]).fan 1).target.speed * 10 := by decide

def urgentFan : State :=
  let s := ((holdsGrant 100).withFan 3 { fanAt .coasting with target := ⟨.fwd, 800⟩ }).withCtl
    { ControllerSettings.factory with pressFan := some 3 }
  s.withArbiter { s.arbiter with urgency := true }

theorem witness_UrgentRequestPreempts :
    (inMode .incident urgentFan).modes.mode = .incident ∧
    let s := urgentFan
    s.ctl.pressFan = some 3 ∧ s.arbiter.urgency = true ∧ (s.fan 3).state = .coasting ∧ (s.fanCfg 3).inRange = true ∧
      3 ∉ s.arbiter.holders ∧ s.arbiter.waiting[(3 : Fin 4)] = false ∧ 3 ∉ s.arbiter.suspended ∧
      (s.fan 3).target.speed ≠ 0 ∧ s.stop.asserted = false ∧ (s.fan 3).held = false ∧ (s.fan 3).faultInput = false ∧
      (s.fan 3).credits ≠ 0 ∧ s.arbiter.holders = [] ++ [0] ∧ s.ctl.slotCount = [].length (α := Fin 4) + 1 := by decide

/-- A tach input one sample short of the filter and at it, its timeout just kept and just missed, a prescale of 2 filled and not
filled, with and without a period open, and changed settings. -/
def tachAt (tau : Nat) (age : Option Nat) (count : Nat) : State :=
  (withFan0 { fanAt .running with tach := { Tach.atReset with
    prescale := 2, disagreement := 2, prescaleCount := count, timeout := some tau, periodAge := age } }).withFanCfg 0
      { FanSettings.factory with prescale := 2 }

theorem witness_TachInputMeasuresTheSpeed :
    (∀ tau ∈ [1999940, 1999960, 1999980], ∀ age ∈ [none, some 1999940], ∀ count ∈ [0, 1],
      let s := tachAt tau age count
      let x := (s.fan 0).tach
      x.level ≠ true ∧ x.timeout = some tau ∧ max 1 (x.filterN - x.disagreement) = 2 ∧ x.disagreement + 1 < x.filterN ∧
        x.prescale = (s.fanCfg 0).prescale ∧ x.filterN = (s.fanCfg 0).filterN ∧ x.pulses = (s.fanCfg 0).pulsesPerRev ∧
        x.pulses ≠ 0 ∧ x.periodAge = age ∧ x.prescaleCount = count) ∧
    (1999940 + 20 * 2 < 2000000 ∧ 1999960 + 20 * 2 ≤ 2000000 ∧ 2000000 < 1999980 + 20 * 2 ∧ 2000000 ≤ 1999980 + 20 * 1) ∧
    (State.reset.fan 0).tach.level = false ∧ (State.reset.fan 0).tach.timeout = none ∧
    (∃ s : State, (s.fan 0).tach.pulses = 0 ∧ (s.fan 0).tach.level ≠ true) ∧
    (∃ s : State, (s.fan 0).tach.filterN ≠ (s.fanCfg 0).filterN ∧ (s.fan 0).tach.level ≠ true) ∧
    (let s := (tachAt 1999960 none 0).withFanCfg 0 { FanSettings.factory with prescale := 2, filterN := 8 }
     (s.fan 0).tach.filterN ≠ (s.fanCfg 0).filterN ∧ (s.fan 0).tach.timeout = some 1999960 ∧
       2000000 ≤ 1999960 + 20 * max 1 ((s.fan 0).tach.filterN - (s.fan 0).tach.disagreement)) ∧
    (∃ s : State, (s.fan 0).tach.pulses ≠ 0 ∧ (s.fanCfg 0).pulsesPerRev = 0 ∧ (s.fan 0).tach.level ≠ true) ∧
    (∃ s : State, (s.fan 0).tach.timeout ≠ none) :=
  ⟨by decide, by decide, by decide, by decide,
    ⟨withFan0 { fanAt .off with tach := { Tach.atReset with pulses := 0 } }, by decide⟩,
    ⟨State.reset.withFanCfg 0 { FanSettings.factory with filterN := 8 }, by decide⟩, by decide,
    ⟨State.reset.withFanCfg 0 { FanSettings.factory with pulsesPerRev := 0 }, by decide⟩,
    ⟨withFan0 { fanAt .off with tach := { Tach.atReset with timeout := some 0 } }, by decide⟩⟩

/-- A fan for each clause of `SpeedTaken`. -/
theorem witness_SpeedTaken :
    (∀ st ∈ [FanState.off, .running], ((withFan0 (fanAt st)).fan 0).state = st) ∧
    (∀ rpm ∈ [347, 348], let x := { fanAt .running with reference := 3000, tach := { Tach.atReset with rpm := rpm } }
      (FanSettings.factory.ratedRpm * x.reference / 10000 * (100 - FanSettings.factory.tolerance) / 100 ≤ x.tach.rpm ↔
        rpm = 348)) ∧
    (let s := (holdsGrant 100).withFan 0 { (holdsGrant 100).fan 0 with reference := 3000 }
     (s.fan 0).state = .starting ∧ 0 ∈ s.arbiter.holders ∧ (s.fan 0).reference = (s.fan 0).target.speed * 10) ∧
    ((∀ f : Fin 4, (holdsGrant 100).arbiter.waiting[f] = false) ∧ (holdsGrant 100).arbiter.suspended = [] ∧
      ((holdsGrant 100).fan 0).reference ≠ ((holdsGrant 100).fan 0).target.speed * 10) := by decide

theorem noneWaits : ∀ f : Fin 4, State.reset.arbiter.waiting[f] ≠ true := by decide

theorem arbiterOk_reset (b : HardLine) (ctl : ControllerSettings) (h : 0 ≤ ctl.slotCount) :
    ArbiterOk ({ State.reset with stop := b }.withCtl ctl) where
  slots := h
  holdersOnce := List.nodup_nil
  holdersStart := fun f hf => absurd hf List.not_mem_nil
  suspendedOnce := List.nodup_nil
  suspendedStart := fun f hf => absurd hf List.not_mem_nil
  waitingAwait := fun f hw => (noneWaits f hw).elim
  creditWaitAwait := fun f hw => ((by decide : ∀ f : Fin 4, (State.reset.fan f).creditWait ≠ true) f hw).elim
  awaits := fun f hs => absurd hs ((by decide : ∀ f : Fin 4, (State.reset.fan f).state ≠ .awaitGrant) f)
  atRest := fun f _ => (by decide : ∀ f : Fin 4, (State.reset.fan f).reference = 0) f

theorem witness_StopLineTakesTheFans :
    State.reset.stop.asserted = false ∧ (HardLine.taken true).asserted = true ∧
    (∃ s : State, s.stop.asserted = true ∧ s.ctl.autoResume = false) ∧
    (∃ s : State, s.stop.asserted = true ∧ s.ctl.autoResume = true ∧ ArbiterOk s) ∧
    (∀ st ∈ [FanState.awaitGrant, .starting, .running, .stopping, .off], ((withFan0 (fanAt st)).fan 0).state = st) ∧
    ∀ b ∈ [true, false], ∃ s : State, (s.fan 0).state = .off ∧ (s.fan 0).held = false ∧ (s.fan 0).target.speed ≠ 0 ∧
      (s.fan 0).faultInput = b :=
  ⟨by decide, by decide, ⟨{ State.reset with stop := .taken true }, by decide⟩,
    ⟨{ State.reset with stop := .taken true }.withCtl { ControllerSettings.factory with autoResume := true }, by decide,
      by decide, arbiterOk_reset _ _ (Nat.zero_le _)⟩,
    by decide, fun b _ => ⟨withFan0 { fanAt .off with target := ⟨.fwd, 1⟩, faultInput := b }, rfl, rfl, (by decide : (1 : Nat) ≠ 0), rfl⟩⟩

def heldFan : State := { withFan0 { fanAt .off with held := true, target := ⟨.fwd, 1000⟩ } with choice := 1 }

theorem heldFan_arbiterOk : ArbiterOk heldFan where
  slots := by decide
  holdersOnce := List.nodup_nil
  holdersStart := fun f hf => absurd hf List.not_mem_nil
  suspendedOnce := List.nodup_nil
  suspendedStart := fun f hf => absurd hf List.not_mem_nil
  waitingAwait := fun f hw => (noneWaits f hw).elim
  creditWaitAwait := fun f hw => ((by decide : ∀ f : Fin 4, (heldFan.fan f).creditWait ≠ true) f hw).elim
  awaits := fun f hs => absurd hs ((by decide : ∀ f : Fin 4, (heldFan.fan f).state ≠ .awaitGrant) f)
  atRest := fun f _ => (by decide : ∀ f : Fin 4, (heldFan.fan f).reference = 0) f

theorem witness_ResumeClearsHeld :
    (∃ s : State, Ready s 1 ∧ s.stop.asserted = true) ∧
    (Ready State.reset 1 ∧ State.reset.stop.asserted = false ∧ ∀ f, (State.reset.fan f).held = false) ∧
    Ready heldFan 1 ∧ heldFan.stop.asserted = false ∧ (∃ f, (heldFan.fan f).held = true) ∧ ArbiterOk heldFan ∧
      (heldFan.fan 0).state = .off ∧ (heldFan.fan 0).target.speed ≠ 0 ∧ (heldFan.fan 0).faultInput = false ∧
      ∃ s : State, (s.fan 0).state = .off ∧ (s.fan 0).held = true ∧ (s.fan 0).target.speed ≠ 0 ∧
        (s.fan 0).faultInput = true :=
  ⟨⟨{ State.reset with stop := .taken true }, ready_of rfl rfl rfl rfl rfl, rfl⟩,
    ⟨ready_of rfl rfl rfl rfl rfl, rfl, by decide⟩, ready_of rfl rfl rfl rfl rfl, by decide, by decide, heldFan_arbiterOk, by decide,
    by decide, by decide,
    ⟨withFan0 { fanAt .off with held := true, faultInput := true, target := ⟨.fwd, 1000⟩ }, by decide⟩⟩

theorem witness_EscapeRequestActsByTheState :
    (∃ s : State, Ready s 1 ∧ (13 : Byte).toNat = (0 : Fin 2).val + 13 ∧ (s.door 0).state = .inactive) ∧
    Ready State.reset 1 ∧ (14 : Byte).toNat = (1 : Fin 2).val + 13 ∧ (State.reset.door 1).state ≠ .inactive :=
  ⟨⟨withDoor0 (doorAt .inactive 0), ready_of rfl rfl rfl rfl rfl, by decide, by decide⟩, ready_of rfl rfl rfl rfl rfl, by decide, by decide⟩

/-- A door for each clause of `EscapeArrives`. -/
theorem witness_EscapeArrives :
    (∀ st ∈ [DoorState.inactive, .closedLocked, .relieving, .opening, .isOpen, .closing, .unhomed, .fault, .closed],
      ((withDoor0 (doorAt st 11)).door 0).state = st) ∧
    (∀ t ∈ [opening, closing], let x := (withDoor0 (movingDoor .unlocking 0 t)).door 0
      x.state = .unlocking ∧ x.travel = some t) ∧
    (∀ p ∈ [(10 : Int), 11], let s := withDoor0 (doorAt .halted p)
      (s.door 0).state = .halted ∧ (s.door 0).atZero (s.doorCfg 0) = decide (p = 10)) ∧
    ClearToOpen (State.reset.doorCfg 0) (movingDoor .closing 3989 closing) (currentEscape (State.reset.doorCfg 0)) :=
  ⟨by decide, by decide, by decide, clearToOpen_of (p := 4000) rfl (by decide)⟩

/-- A door for each clause of `PressureChecked`: no pressure channel, an average at the limit and one above it, no usable
average with and without a blind relief time. -/
theorem witness_PressureChecked :
    (State.reset.doorCfg 0).pressureChannel = none ∧
    ClearToOpen (State.reset.doorCfg 0) (doorAt .closed 10) (currentEscape (State.reset.doorCfg 0)) ∧
    (Usable { Channel.atReset with average := some (-50), fill := 1 } ∧
      (-50 : Int).natAbs ≤ DoorSettings.factory.pressureLimit ∧ ¬ (51 : Int).natAbs ≤ DoorSettings.factory.pressureLimit) ∧
    ¬ Usable Channel.atReset ∧ DoorSettings.factory.blindTime ≠ 0 ∧
    ∃ s : State, (s.doorCfg 0).pressureChannel = some 0 ∧ (s.doorCfg 0).blindTime = 0 :=
  ⟨by decide, clearToOpen_of (p := 4000) rfl (by decide), ⟨⟨by decide, by decide⟩, by decide, by decide⟩,
    fun h => h.2 rfl, by decide,
    ⟨State.reset.withDoorCfg 0 { DoorSettings.factory with pressureChannel := some 0, blindTime := 0 }, by decide⟩⟩

theorem witness_EscapeLineReachesBothDoors :
    State.reset.escape.asserted = false ∧ (State.reset.door 0).state ≠ .inactive ∧ (∃ s : State, s.escape.asserted = true ∧ (s.door 0).escape.escapeLine = false) ∧
    ∃ s : State, s.escape.asserted = true ∧ (s.door 0).escape.escapeLine = true ∧ (s.door 0).state = .isOpen :=
  ⟨by decide, by decide, ⟨{ State.reset with escape := .taken true }, by decide⟩,
    ⟨{ withDoor0 { doorAt .isOpen 4000 with escape := { EscapeSet.empty with escapeLine := true } } with
        escape := .taken true }, by decide⟩⟩

theorem witness_SettleExpiryGoesOn :
    (State.reset.door 0).state ≠ .unlocking ∧
    (∀ t ∈ [opening, closing], let x := (withDoor0 { movingDoor .unlocking 11 t with settle := some 0, travelTimer := none }).door 0
      x.state = .unlocking ∧ x.settle ≠ none ∧ x.travel = some t) ∧
    ClearToClose (State.reset.doorCfg 0) (movingDoor .unlocking 11 closing) closing ∧
    ∃ x : Door, x.state = .unlocking ∧ x.settle ≠ none ∧ x.travel = some closing ∧ x.inputs.closedStop = true ∧
      x.homed = true ∧ x.slot = none :=
  ⟨by decide, by decide, clearToClose_of (p := 0) rfl (by decide),
    ⟨{ movingDoor .unlocking 0 closing with settle := some 200, inputs := { doorPinsClear with closedStop := true } }, by decide⟩⟩

def relieving (usable : Bool) (τ : Nat) : Door :=
  { movingDoor .relieving 0 opening with
    travelTimer := none, reliefTimer := some τ, reliefChannel := some 0, observedUsable := usable }

/-- Both sides of the blind test, at a timer short of a limit and past it, and two limits reached at the same step. -/
theorem witness_ReliefTimersEndRelief :
    (State.reset.door 0).state ≠ .relieving ∧
    (∀ b ∈ [true, false], ∀ τ ∈ [0, 8000, 8050], let x := (withDoor0 (relieving b τ)).door 0
      x.state = .relieving ∧ x.reliefTimer = some τ ∧ x.travel = some opening ∧ x.observedUsable = b) ∧
    opening.dir = .toOpen ∧ ClearToOpen (State.reset.doorCfg 0) (relieving true 0) opening ∧
    (State.reset.doorCfg 0).blindTime ≤ (State.reset.doorCfg 0).reliefTimeout ∧
    (max (3 * 10) (2950 / 100 + 1) = 30 ∧ max (1 * 10) (2950 / 100 + 1) = 30 ∧ max (1 * 10) (2499 / 100 + 1) = 25) :=
  ⟨by decide, by decide, by decide, clearToOpen_of (p := 4000) rfl (by decide), by decide, by decide⟩

/-- The relief timer at the last step before the blind relief time and at it; an average at the limit and beyond. -/
theorem witness_ReliefObservesItsChannel :
    (∀ τ ∈ [2900, 3000], let x := (withDoor0 (relieving true τ)).door 0
      x.state = .relieving ∧ x.reliefChannel = some 0 ∧ x.reliefTimer = some τ ∧ x.travel = some opening) ∧
    ClearToOpen (State.reset.doorCfg 0) (relieving true 3000) opening ∧
    (∀ p ∈ [(50, true), (51, false)],
      afterwards (.sampleInstant 0 ((640 + p.1) * 1000 / 160 + 1)) State.reset (fun t =>
        (t.channel 0).average == some (p.1 : Int) &&
          decide ((p.1 : Int).natAbs ≤ (State.reset.doorCfg 0).pressureLimit) == p.2) = true) ∧
    afterwards (.sampleInstant 0 0) State.reset (fun t => (t.channel 0).average == none) = true :=
  ⟨by decide, clearToOpen_of (p := 4000) rfl (by decide), by decide, by decide⟩

theorem witness_TravelTimeoutFaults :
    (State.reset.door 0).state ≠ .opening ∧ (State.reset.door 0).state ≠ .closing ∧
    ∀ p ∈ [(DoorState.opening, opening), (.closing, closing)], let x := (withDoor0 (movingDoor p.1 1000 p.2)).door 0
      x.state = p.1 ∧ x.travelTimer ≠ none ∧ x.travel = some p.2 := by decide

theorem witness_HoldOpenAndReopenTimers :
    (let x := (withDoor0 { doorAt .isOpen 4000 with holdOpen := some 60000 }).door 0
     x.state = .isOpen ∧ x.holdOpen ≠ none ∧ (State.reset.doorCfg 0).autoReclose = true ∧ x.escape.escapeLine = false ∧
      x.escape.scenario = false ∧ x.recloseSuspended = false ∧ x.inputs.presence = false) ∧
    ClearToClose (State.reset.doorCfg 0) (doorAt .isOpen 4000) closing ∧
    (∀ b ∈ [true, false], ((withDoor0 { doorAt .isOpen 4000 with inputs := { doorPinsClear with presence := b } }).door 0).inputs.presence = b) ∧
    (State.reset.door 0).reopen = none ∧
    (let x := { doorAt .halted 0 with reopen := some 2000 }
     x.reopen ≠ none ∧ x.escape.active = false) ∧
    (∀ st ∈ [DoorState.halted, .unhomed], let x := { doorAt st 11 with reopen := some 2000, escape := { EscapeSet.empty with scenario := true } }
      x.reopen ≠ none ∧ x.escape.active = true ∧ x.state = st ∧ x.atZero .factory = false) ∧
    (doorAt .halted 10).atZero .factory = true ∧
    ClearToOpen (State.reset.doorCfg 0) (doorAt .halted 11) (currentEscape (State.reset.doorCfg 0)) :=
  ⟨by decide, clearToClose_of (p := 0) rfl (by decide), by decide, by decide, by decide, by decide, by decide,
    clearToOpen_of (p := 4000) rfl (by decide)⟩

/-- The ends of the position's range, a closed door that ceases to be at 0, both travels one edge short of their targets, and
further off. -/
theorem witness_EncoderEdgeMovesTheDoor :
    (GoesOn .factory (movingDoor .opening 3989 opening) opening ∧ GoesOn .factory (movingDoor .closing 11 closing) closing) ∧
    QuadEdge.towardOpen ≠ .bothAtOnce ∧ travelling (doorAt .isOpen 32767).state = false ∧
    (let x := doorAt .closed 10
     x.state = .closed ∧ x.atZero .factory = true ∧ ({ x with position := 11 } : Door).atZero .factory = false) ∧
    (let x := (withDoor0 (movingDoor .opening 3989 opening)).door 0
     x.state = .opening ∧ x.travel = some opening ∧ opening.target = some 4000 ∧ x.homed = true ∧
      x.inputs.openStop = false ∧ x.slot = none ∧ (4000 : Int) - (State.reset.doorCfg 0).tolerance ≤ min (x.position + 1) 32767) ∧
    (let x := (withDoor0 (movingDoor .closing 11 closing)).door 0
     x.state = .closing ∧ x.travel = some closing ∧ closing.target = some 0 ∧ x.homed = true ∧
      x.inputs.closedStop = false ∧ x.slot = none ∧ closing.reason ≠ .homing ∧
      max (x.position - 1) (-32768) ≤ 0 + (State.reset.doorCfg 0).tolerance) :=
  ⟨⟨goesOn_of (p := 4000) rfl rfl (by decide), goesOn_of (p := 0) rfl rfl (by decide)⟩, by decide⟩

theorem witness_EndStopHomesTheDoor :
    (let x := doorAt .closed 10
     let y := { x with inputs := { doorPinsClear with closedStop := true } }
     y.inputs.closedStop = true ∧ y.state = .closed) ∧
    (let y := { doorAt .isOpen 4000 with inputs := { doorPinsClear with openStop := true } }
     y.inputs.openStop = true ∧ y.state ≠ .closed) ∧
    (∀ p ∈ [(100 : Nat), 101],
      let cfg := { DoorSettings.factory with openPosition := p, tolerance := 100 }
      let x := doorAt .closed 5
      let z := { x with inputs := { x.inputs with openStop := true }, position := p, homed := true }
      x.inputs.openStop = false ∧ x.atZero cfg = true ∧ z.atZero cfg = decide (p = 100)) ∧
    (State.reset.door 0).inputs.closedStop = false ∧ (State.reset.door 0).state = .unhomed ∧
    (State.reset.door 0).travel = none ∧
    (let x := (withDoor0 (movingDoor .opening 3000 opening)).door 0
     x.motorOpen = true ∧ x.travel = some opening ∧ opening.dir = .toOpen ∧ x.slot = none ∧ x.inputs.openStop = false) ∧
    (let x := (withDoor0 (movingDoor .closing 3000 closing)).door 0
     x.motorClose = true ∧ x.travel = some closing ∧ closing.dir = .toClose ∧ x.slot = none ∧ x.inputs.closedStop = false) := by
  decide

/-- Both travels one count from their targets, and the edge at a door at rest. -/
theorem witness_SafetyEdgeObstructs :
    ((State.reset.door 0).inputs.safetyEdge = false ∧ (State.reset.door 0).state ≠ .opening ∧
      (State.reset.door 0).state ≠ .closing ∧ travelling (State.reset.door 0).state = false) ∧
    (∀ reason ∈ [Reason.autoReclose, .supervisory],
      let t := { closing with reason := reason }
      let x := (withDoor0 (movingDoor .closing 11 t)).door 0
      x.inputs.safetyEdge = false ∧ x.state = .closing ∧ x.travel = some t ∧ t.dir = .toClose ∧ x.inputs.closedStop = false ∧
        t.target = some 0 ∧ (0 : Int) + (State.reset.doorCfg 0).tolerance < x.position ∧ x.inputs.openStop = false ∧
        1 ≤ (State.reset.doorCfg 0).travelLimit ∧
        x.position < ((State.reset.doorCfg 0).openPosition : Int) - (State.reset.doorCfg 0).tolerance) ∧
    (let x := (withDoor0 (movingDoor .opening 3989 opening)).door 0
     x.inputs.safetyEdge = false ∧ x.state = .opening ∧ x.travel = some opening ∧ opening.dir = .toOpen ∧
      x.inputs.openStop = false ∧ opening.target = some 4000 ∧ x.position < 4000 - ((State.reset.doorCfg 0).tolerance : Int) ∧
      x.slot = none) := by decide

/-- A record for the slot of a door. -/
def queued (dir : DoorDir) (mode : TravelMode) : Travel :=
  { dir := dir, mode := mode, given := none, target := none, reason := .supervisory, forced := false }

/-- A loaded slot at each state in which a door comes to rest, and travels past their targets when an input changes. -/
theorem witness_SlotStarts :
    (∀ m ∈ [TravelMode.full, .hold, .step], ∀ dir ∈ [DoorDir.toOpen, .toClose],
      let x := { movingDoor .opening 3990 opening with slot := some (queued dir m) }
      x.slot = some (queued dir m) ∧ x.homed = true ∧ opening.target = some 4000 ∧ (4000 : Int) - 10 ≤ x.position) ∧
    ClearToClose .factory (doorAt .unhomed 11) currentHoming ∧
    ClearToOpen .factory (restedDoor .factory (doorAt .halted 3889) .halted)
      (becomesCurrent .factory (restedDoor .factory (doorAt .halted 3889) .halted) (queued .toOpen .step)) ∧
    ClearToClose .factory (restedDoor .factory (doorAt .isOpen 4000) .isOpen)
      (becomesCurrent .factory (restedDoor .factory (doorAt .isOpen 4000) .isOpen) (queued .toClose .full)) ∧
    (becomesCurrent .factory (restedDoor .factory (doorAt .halted 10) .closed) (queued .toClose .full)).target = some 0 ∧
    TargetMet .factory { movingDoor .opening 3990 opening with inputs := { doorPinsClear with safetyEdge := true } } opening ∧
    TargetMet .factory (movingDoor .closing 10 closing) closing ∧
    NothingEnds .factory (movingDoor .opening 3989 opening) ∧ NothingEnds .factory (doorAt .halted 11) :=
  ⟨by decide, clearToClose_of (p := 0) rfl (by decide),
    ⟨by decide, by decide, by decide, fun _ p hp => by cases hp; decide, fun h => nomatch h⟩,
    clearToClose_of (p := 0) rfl (by decide), by decide, ⟨rfl, by decide, 4000, rfl, .inl (by decide)⟩,
    ⟨rfl, by decide, 0, rfl, .inr (by decide)⟩,
    (fun _ r hr => by cases hr; exact ⟨fun _ => goesOn_of (p := 4000) rfl rfl (by decide), fun h => nomatch h⟩),
    fun h => nomatch h⟩

def keyed (x : Door) : State := { withDoor0 x with maint := .taken true }

def holdOf (dir : DoorDir) : Travel :=
  { dir := dir, mode := .hold, given := none, target := some (match dir with
      | .toOpen => 4000
      | .toClose => 0), reason := .service, forced := false }

def homingCurrent : Travel :=
  { dir := .toClose, mode := .full, given := none, target := some 0, reason := .homing, forced := false }

theorem witness_ServiceButtonsHoldTheDoor :
    State.reset.maint.asserted = false ∧
    (∀ st ∈ [DoorState.closedLocked, .unhomed, .isOpen, .halted, .closed], let s := keyed (doorAt st 11)
      s.maint.asserted = true ∧ travelling (s.door 0).state = false ∧ (s.door 0).state = st ∧
        (s.door 0).escape.active = false ∧ (s.door 0).slot = none) ∧
    (let x := { doorAt .halted 11 with inputs := { doorPinsClear with serviceClose := true } }
     ClearToClose (State.reset.doorCfg 0) x (holdOf .toClose)) ∧
    ClearToClose (State.reset.doorCfg 0) (doorAt .unhomed 11) homingCurrent ∧
    (let x := { doorAt .halted 3989 with inputs := { doorPinsClear with serviceOpen := true } }
     x.inputs.openStop = false ∧ x.inputs.safetyEdge = false ∧ 1 ≤ (State.reset.doorCfg 0).travelLimit ∧
      x.position < 4000 - ((State.reset.doorCfg 0).tolerance : Int) ∧ x.inputs.serviceOpen = true) ∧
    ((doorAt .closed 10).position ≤ ((State.reset.doorCfg 0).tolerance : Int) ∧ (doorAt .halted 10).atZero .factory = true ∧
      (doorAt .halted 11).atZero .factory = false) ∧
    (∀ p ∈ [(DoorState.opening, DoorDir.toOpen, (3989 : Int)), (.closing, .toClose, 11)],
      let x := (keyed (movingDoor p.1 p.2.2 (holdOf p.2.1))).door 0
      x.state = p.1 ∧ x.travel = some (holdOf p.2.1) ∧ (holdOf p.2.1).dir = p.2.1 ∧ (holdOf p.2.1).mode = .hold ∧
        x.slot = none ∧ x.homed = true ∧ x.inputs.openStop = false ∧ x.inputs.closedStop = false ∧ x.position = p.2.2) ∧
    (∀ p ∈ [(DoorState.unlocking, DoorDir.toOpen), (.unlocking, .toClose), (.relieving, .toOpen)],
      let x := (keyed (movingDoor p.1 0 (holdOf p.2))).door 0
      x.state = p.1 ∧ x.travel = some (holdOf p.2) ∧ (holdOf p.2).dir = p.2 ∧ (holdOf p.2).mode = .hold ∧ x.slot = none) ∧
    (∀ st ∈ [DoorState.unlocking, .relieving], ∀ n ∈ [queued .toClose .full, serviceTravel .toOpen],
      let x := (keyed { movingDoor st 0 (holdOf .toOpen) with slot := some n }).door 0
      x.state = st ∧ x.travel = some (holdOf .toOpen) ∧ x.slot = some n ∧ n.reason ≠ .autoReclose) ∧
    (∀ st ∈ [DoorState.unlocking, .relieving], ∀ k ∈ [TravelMode.full, .step], let r := { opening with mode := k }
      let x := movingDoor st 0 r
      x.travel = some r ∧ r.mode ≠ .hold ∧ x.state ≠ .opening ∧ x.state ≠ .closing) ∧
    GoesOn .factory (movingDoor .opening 3989 opening) opening ∧ opening.mode ≠ .hold ∧
    (State.reset.door 0).travel = none :=
  ⟨by decide, by decide, clearToClose_of (p := 0) rfl (by decide), clearToClose_of (p := 0) rfl (by decide), by decide,
    by decide, by decide, by decide, by decide, by decide, goesOn_of (p := 4000) rfl rfl (by decide), by decide, by decide⟩

/-- A door for each answer to a DOOR_TRAVEL, the flags and the limits of the direction and mode codes at their ends. -/
theorem witness_DoorTravelIsCheckedAndStarts :
    (Ready State.reset 1 ∧ (13 : Byte).toNat = (0 : Fin 2).val + 13 ∧ 2 ≤ (2 : Byte).toNat ∧ 3 ≤ (3 : Byte).toNat) ∧
    (∀ p ∈ [(DoorDir.toOpen, (0 : Byte)), (.toClose, 1)], p.2.toNat = doorDirCode p.1) ∧
    (∀ p ∈ [(TravelMode.full, (0 : Byte)), (.hold, 1), (.step, 2)], p.2.toNat = travelModeCode p.1) ∧
    (∀ st ∈ [DoorState.inactive, .fault, .unhomed, .closedLocked, .closed, .isOpen, .halted],
      ((withDoor0 (doorAt st 11)).door 0).state = st ∧ State.reset.maint.asserted = false) ∧
    (doorAt .isOpen 4000).escape.active = false ∧
    { doorAt .isOpen 4000 with escape := { EscapeSet.empty with scenario := true } }.escape.active = true ∧
    (travelling (movingDoor .closing 11 closing).state = true ∧ (2 : Byte).getLsbD 0 = false ∧ (1 : Byte).getLsbD 0 = true ∧
      (2 : Byte).getLsbD 1 = true) ∧
    (doorAt .halted 10).atZero .factory = true ∧ (doorAt .halted 11).atZero .factory = false ∧
    ClearToOpen (State.reset.doorCfg 0) (doorAt .halted 3989) { opening with given := some 65535 } ∧
    ClearToClose (State.reset.doorCfg 0) (doorAt .isOpen 4000) { closing with given := some 3989, target := some 3989 } ∧
    ClearToClose (State.reset.doorCfg 0) (doorAt .unhomed 11) homingCurrent :=
  ⟨⟨ready_of rfl rfl rfl rfl rfl, by decide⟩, by decide, by decide, by decide, by decide, by decide, by decide, by decide, by decide,
    clearToOpen_of (p := 4000) rfl (by decide), clearToClose_of (p := 3989) rfl (by decide),
    clearToClose_of (p := 0) rfl (by decide)⟩

theorem witness_DoorAbortEndsTheTravel :
    Ready (withDoor0 (movingDoor .closing 11 closing)) 1 ∧ (13 : Byte).toNat = (0 : Fin 2).val + 13 ∧
    (∀ st ∈ [DoorState.unlocking, .relieving, .opening, .closing], let x := (withDoor0 (movingDoor st 11 closing)).door 0
      x.travel = some closing ∧ closing.reason ≠ .escape ∧ travelling x.state = true ∧ x.homed = true) ∧
    (∃ x : Door, ∃ r, x.travel = some r ∧ r.reason = .escape) ∧
    (let x := { doorAt .halted 11 with reopen := some 0 }
     x.state = .halted ∧ x.reopen ≠ none) ∧
    (State.reset.door 0).reopen = none ∧ (State.reset.door 0).travel = none :=
  ⟨ready_of rfl rfl rfl rfl rfl, by decide, by decide, ⟨movingDoor .opening 11 escapeTravel, escapeTravel, by decide⟩, by decide,
    by decide, by decide⟩

theorem witness_ModeRequestsAndLineLoss :
    (∀ m ∈ [Mode.auto, .manual, .incident], ∀ key ∈ [true, false],
      let s := { inMode m State.reset with maint := .taken key }
      s.line.reply = none ∧ s.line.resetRequested = false ∧ s.modes.lineLost = false ∧ s.line.station = some 1 ∧ s.line.transmitting = false ∧
        s.modes.mode = m ∧ s.maint.asserted = key ∧ s.modes.linkTimer ≠ none) ∧
    2 ≤ (2 : Byte).toNat ∧ (1 : Byte).toNat < 2 ∧
    ∃ s : State, s.modes.linkTimer = none :=
  ⟨by decide, by decide, by decide, ⟨State.reset.withModes { State.reset.modes with linkTimer := none, lineLost := true }, rfl⟩⟩

/-- A HOLD travel, a STEP travel and a FULL travel at the release of the key. -/
theorem witness_MaintLineIsTheKey :
    State.reset.maint.asserted = false ∧
    (∀ m ∈ [Mode.auto, .manual], ∀ k ∈ [TravelMode.full, .hold, .step],
      let t := { opening with mode := k }
      let s := inMode m (keyed (movingDoor .opening 11 t))
      s.maint.asserted = true ∧ s.modes.mode = m ∧ (s.door 0).travel = some t ∧ t.mode = k ∧ (s.door 0).slot = none) := by
  decide

def armedState (m : Mode) : State :=
  let s := inMode m State.reset
  s.withModes { s.modes with armed := some { scenario := 15, tag := 255 } }

theorem witness_EngagementsAreTaken :
    (∀ m ∈ [Mode.auto, .manual, .incident], let s := armedState m
      s.line.reply = none ∧ s.line.resetRequested = false ∧ s.modes.lineLost = false ∧ s.line.station = some 1 ∧ s.line.transmitting = false ∧
        s.modes.mode = m ∧ s.modes.armed = some { scenario := 15, tag := 255 }) ∧
    Ready (armedState .incident) 1 ∧ (16 : Byte).toNat = 15 + 1 ∧ (1 : Byte).toNat = 1 ∧ (15 : Byte).toNat = 15 ∧
    ({ scenario := 15, tag := 255 } : Armed).tag = (255 : Byte).toNat ∧
    ({ scenario := 15, tag := 255 } : Armed).tag ≠ (254 : Byte).toNat ∧
    ∃ s : State, Quiet s ∧ s.line.station = none :=
  ⟨by decide, ready_of rfl rfl rfl rfl rfl, by decide, by decide, by decide, by decide, by decide,
    ⟨State.reset.withLine { State.reset.line with station := none, source := .unassigned }, ⟨rfl, rfl, rfl, rfl⟩, rfl⟩⟩

/-- A record with an entry for fan 0, which is LOCKED_OUT, and with a policy for each door. -/
def lockedOutFan (fault : Bool) : State :=
  let s := withFan0 { fanAt .lockedOut with lockoutMemory := true, tripCount := 3, faultInput := fault }
  let r : ScenarioRecord := { fans := [⟨0, .rev, 500, 0⟩], doors := [⟨0, .openHold⟩, ⟨1, .unlock⟩] }
  s.withSettings { s.settings with scenarios := s.settings.scenarios.set 14 r }

/-- A lockout cleared with and without a FAULT, an OPEN_HOLD and an UNLOCK applied, and each removed again. -/
theorem witness_Engaged :
    (∀ b ∈ [true, false], let s := lockedOutFan b
      (⟨0, .rev, 500, 0⟩ : FanEntry) ∈ (s.settings.scenario 15).fans ∧ (s.fan 0).state = .lockedOut ∧ 0 ∉ s.arbiter.holders ∧
        s.arbiter.waiting[(0 : Fin 4)] = false ∧ 0 ∉ s.arbiter.suspended ∧ (s.fan 0).creditWait = false ∧ s.ctl.pressFan ≠ some 0 ∧ (s.fan 0).faultInput = b ∧ s.stop.asserted = false ∧
        (s.fan 0).held = false ∧ (s.settings.scenario 15).doorPolicy 0 = .openHold ∧
        (s.settings.scenario 15).doorPolicy 1 = .unlock ∧ engagedPolicy none 0 = .keep ∧
        (s.door 0).state ≠ .inactive) ∧
    (let s := lockedOutFan true
     let p : Option ScenarioRecord := some (s.settings.scenario 15)
     engagedPolicy p 0 = .openHold ∧ engagedPolicy p 1 = .unlock ∧ (doorAt .closed 0).state = .closed ∧
       DoorSettings.factory.lockPolicy = .lockedWhenClosed) := by
  decide

/-- In INCIDENT fan 0 holds the one grant and fan 1 waits behind it with no credit. -/
def waitsInIncident : State :=
  let s := inMode .incident ((holdsGrant 100).withFan 1 { fanAt .awaitGrant with credits := 0 })
  s.withArbiter { s.arbiter with waiting := s.arbiter.waiting.set 1 true }

theorem witness_LeftIncident :
    ArbiterOk waitsInIncident ∧ waitsInIncident.arbiter.waiting[(1 : Fin 4)] = true ∧ (waitsInIncident.fan 1).credits = 0 :=
  ⟨⟨by decide, by decide, by decide, by decide, by decide, by decide, by decide, by decide, by decide⟩, by decide, by decide⟩

theorem witness_ArmAndDisarm :
    Ready State.reset 1 ∧ (1 ≤ (15 : Byte).toNat ∧ (15 : Byte).toNat ≤ 15 ∧ (255 : Byte) ≠ 0) ∧
    ¬ (1 ≤ (16 : Byte).toNat ∧ (16 : Byte).toNat ≤ 15) ∧
    ∃ s : State, Quiet s ∧ s.line.station = none :=
  ⟨ready_of rfl rfl rfl rfl rfl, by decide, by decide,
    ⟨State.reset.withLine { State.reset.line with station := none, source := .unassigned }, ⟨rfl, rfl, rfl, rfl⟩, rfl⟩⟩

theorem witness_FanRequestsSetAndClear :
    (∀ st ∈ [FanState.running, .lockedOut, .off], let s := inMode .manual (withFan0 { fanAt st with reference := 1, target := ⟨.fwd, 300⟩ })
      s.line.reply = none ∧ s.line.resetRequested = false ∧ s.modes.lineLost = false ∧ s.line.station = some 1 ∧ s.line.transmitting = false ∧
        s.modes.mode = .manual ∧ (s.fan 0).state = st ∧ s.ctl.pressFan ≠ some 0 ∧ (s.fan 0).reference ≠ 0 ∧
        0 ∉ s.arbiter.holders ∧ s.arbiter.waiting[(0 : Fin 4)] = false ∧ 0 ∉ s.arbiter.suspended ∧
        (s.fan 0).faultInput = false ∧ (s.fan 0).target.speed ≠ 0) ∧
    (∀ st ∈ [FanState.starting, .stopping, .awaitGrant, .off, .coasting, .tripped, .inactive],
      let s := inMode .manual (withFan0 { fanAt st with target := ⟨.fwd, 300⟩ })
      s.modes.mode = .manual ∧ (s.fan 0).state = st ∧ (s.fan 0).reference = 0 ∧ s.ctl.pressFan ≠ some 0 ∧
        (⟨.fwd, 1000⟩ : Target) ≠ (s.fan 0).target ∧ (⟨.rev, 0⟩ : Target) ≠ (s.fan 0).target ∧ s.stop.asserted = false ∧
        (s.fan 0).held = false ∧ 0 ∉ s.arbiter.holders ∧ s.arbiter.waiting[(0 : Fin 4)] = false ∧ 0 ∉ s.arbiter.suspended) ∧
    (∀ n ∈ [999, 1000], let s := inMode .manual ((holdsGrant 100).withFan 0 { (holdsGrant 100).fan 0 with
        reference := 10000, tach := { Tach.atReset with rpm := 1160 } })
      (s.fan 0).state = .starting ∧ 0 ∈ s.arbiter.holders ∧ s.arbiter.suspended = [] ∧
        ((s.fan 0).reference = n * 10 ↔ n = 1000) ∧ (∀ f : Fin 4, s.arbiter.waiting[f] = false) ∧
        (s.fanCfg 0).ratedRpm * (s.fan 0).reference / 10000 * (100 - (s.fanCfg 0).tolerance) / 100 ≤ (s.fan 0).tach.rpm) ∧
    (let x := { fanAt .lockedOut with target := ⟨.fwd, 300⟩, faultInput := true }
     x.state = .lockedOut ∧ x.target.speed ≠ 0 ∧ x.held = false ∧ x.faultInput = true) ∧
    (let s := inMode .manual ((holdsGrant 100).withFan 1 { fanAt .off with target := ⟨.fwd, 0⟩ })
     s.arbiter.urgency = false ∧ s.ctl.slotCount ≤ s.arbiter.holders.length ∧ (s.fan 1).credits ≠ 0 ∧
       1 ∉ s.arbiter.holders ∧ s.arbiter.waiting[(1 : Fin 4)] = false) ∧
    Ready State.reset 1 ∧ State.reset.modes.mode ≠ .manual ∧ (9 : Byte).toNat = (0 : Fin 4).val + 9 ∧ 2 ≤ (2 : Byte).toNat ∧
    (State.reset.fan 0).target.speed = 0 :=
  ⟨by decide, by decide, by decide, by decide, by decide, ready_of rfl rfl rfl rfl rfl, by decide, by decide, by decide, by decide⟩

/-- A frame of POLL, one character short of its end. -/
def pollFrame : List Byte := frameBytes 5 0 0x60 []

/-- The receiver in HUNT and RECEIVING, a length byte at the limit and over it, the last character of a frame, the controller
transmitting and not, a reply with and without a reset that waits for it. -/
theorem witness_ReceiverAndReplyFollowTheCharacters :
    (∀ b ∈ [true, false], let s := State.reset.withLine { State.reset.line with transmitting := b, reply := some [0xB6] }
      s.line.transmitting = b ∧ s.line.reply = some [0xB6]) ∧
    (let frame := [0xB6, 1, 0, 0x60] ++ [(97 : Byte)]
     frame.length = 5 ∧ 96 < (97 : Byte).toNat) ∧
    (let frame := [0xB6, 1, 0, 0x60] ++ [(96 : Byte)]
     ¬ 96 < (96 : Byte).toNat ∧ frame.length ≠ 7 + (frame.getD 4 0).toNat) ∧
    (pollFrame.length = 7 + (pollFrame.getD 4 0).toNat ∧ frameCommand pollFrame = some (.poll 5 [])) ∧
    (0 : Byte) ≠ 0xB6 ∧ frameCommand [0, 0, 0, 0, 0, 0, 0] = none ∧
    State.reset.line.receiver = .hunt ∧ State.reset.line.reply = none ∧
    (∀ n ∈ [1, 4, 5], let s := State.reset.withLine { State.reset.line with receiver := .receiving (List.replicate n 0xB6) }
      s.line.receiver = .receiving (List.replicate n 0xB6)) ∧
    ∀ due ∈ [true, false], let s := State.reset.withLine { State.reset.line with reply := some [0xB6], resetRequested := due }
      s.line.reply = some [0xB6] ∧ s.line.resetRequested = due ∧ s.line.receiver = .hunt :=
  ⟨by decide, by decide, by decide, by decide +kernel, by decide, by decide, by decide, by decide, by decide, by decide⟩

theorem witness_FramesAreCheckedAndDispatched :
    State.reset.line.transmitting = false ∧ (∃ s : State, s.line.transmitting = true) ∧
    State.reset.line.resetRequested = false ∧ resetDue.line.resetRequested = true ∧
    requestParts (.poll 1 [0]) = some (0x60, 1, [0]) ∧ (Instr.poll 1 [0]).wellFormed = true ∧
    requestLength 0x60 = some 0 ∧ (2 : Byte) ≠ broadcast ∧ State.reset.line.station ≠ some (2 : Byte).toNat ∧
    Ready State.reset 1 ∧ takenAsBroadcast 0x60 = false ∧
    (Instr.unknownKind 1 0x61 []).wellFormed = true ∧
    (∃ s : State, s.line.reply = none ∧ s.line.resetRequested = false ∧ s.modes.lineLost = true ∧ s.line.station = some 1) ∧
    unitRange 0x24 = some (1, 14) ∧ (0 : Byte).toNat < 1 ∧ 14 < (15 : Byte).toNat ∧ requestLength 0x24 = some [(15 : Byte), 0].length :=
  ⟨by decide, ⟨State.reset.withLine { State.reset.line with transmitting := true }, rfl⟩, by decide, by decide, by decide, by decide,
    by decide, by decide, by decide, ready_of rfl rfl rfl rfl rfl, by decide, by decide,
    ⟨State.reset.withModes { State.reset.modes with lineLost := true }, by decide⟩, by decide, by decide, by decide, by decide⟩

theorem ofBytes_append (l : List Byte) (b : Byte) : ofBytes (l ++ [b]) = ofBytes l * 256 + b.toNat := by
  simp [ofBytes]

/-- A number spelled in as many bytes as it needs is spelled whole. -/
theorem ofBytes_beBytes (n : Nat) : ∀ v : Nat, v < 256 ^ n → ofBytes (beBytes n v) = v := by
  induction n with
  | zero => intro v h; simp at h; subst h; rfl
  | succ n ih =>
    intro v h
    rw [beBytes, ofBytes_append, ih (v / 256) (by rw [Nat.div_lt_iff_lt_mul (by decide)]; rwa [Nat.pow_succ] at h)]
    simp only [byteOf, BitVec.toNat_ofNat]
    omega

/-- The scope at its ends, a probe of 1 and of 48 bits, and stations 1 and 32. -/
theorem witness_EnumerationGivesAStation :
    (∀ src ∈ [StationSource.strapped, .enumerated, .unassigned],
      let s := State.reset.withLine { State.reset.line with source := src, enumState := .isolating }
      s.line.reply = none ∧ s.line.resetRequested = false ∧ s.modes.lineLost = false ∧ s.line.transmitting = false ∧ s.line.source = src ∧
        s.line.enumState = .isolating ∧ s.store.lockLevel < 3) ∧
    2 ≤ (2 : Byte).toNat ∧ (1 : Byte).toNat < 2 ∧ (48 : Byte).toNat ≤ 48 ∧ (32 : Byte).toNat ≤ 32 ∧
    (∃ probed : List Byte, probed.length = 6 ∧ ∀ k, State.reset.line.serial.toNat / 2 ^ (48 - k) = ofBytes probed / 2 ^ (48 - k)) ∧
    Addressed State.reset 1 ∧ requestParts (.enumEnd 1 []) = some (0x04, 1, []) ∧ requestLength 0x04 = some 0 := by
  refine ⟨by decide, by decide, by decide, by decide, by decide, ⟨beBytes 6 State.reset.line.serial.toNat, rfl, fun k => ?_⟩,
    ⟨by decide, rfl⟩, rfl, rfl⟩
  rw [ofBytes_beBytes 6 _ (Nat.lt_of_lt_of_le State.reset.line.serial.isLt (by decide))]

theorem witness_ReadsAnswerWithTheirBlocks :
    Ready State.reset 1 ∧ (8 : Byte).toNat = (7 : Fin 8).val + 1 ∧ (12 : Byte).toNat = (3 : Fin 4).val + 9 ∧
    (14 : Byte).toNat = (1 : Fin 2).val + 13 :=
  ⟨ready_of rfl rfl rfl rfl rfl, by decide, by decide, by decide⟩

theorem witness_PollDrainsTheQueue :
    (∃ s, Ready s 1 ∧ s.reports.records = []) ∧ Ready State.reset 1 ∧ ∃ r rest, State.reset.reports.records = r :: rest :=
  ⟨⟨State.reset.withReports { records := [], overflow := false, timeBase := 0 }, ready_of rfl rfl rfl rfl rfl, rfl⟩,
    ready_of rfl rfl rfl rfl rfl, ⟨_, _, rfl⟩⟩

/-- The last index and the one after it, a locked parameter, a value out of its range, a busy slot count, the value already held
and another. -/
theorem witness_ParametersAreCheckedAndHeld :
    Ready State.reset 1 ∧ unitOf 0 = some .controller ∧ unitOf 14 = some (.door 1) ∧
    indexCount .controller = (6 : Byte).toNat ∧ (5 : Byte).toNat < indexCount .controller ∧
    lockLevelOf .controller 0 > State.reset.store.lockLevel ∧
    (∃ s, Ready s 1 ∧ ¬ lockLevelOf .controller 0 > s.store.lockLevel) ∧
    (Settings.factory.write .controller 1 3).isOk = false ∧ (Settings.factory.write .controller 1 2).isOk = true ∧
    Settings.factory.write .controller 0 10 = .ok Settings.factory ∧
    Settings.factory.write .controller 1 2 ≠ .ok Settings.factory ∧
    (holdsGrant 0).arbiter.holders ≠ [] :=
  ⟨ready_of rfl rfl rfl rfl rfl, by decide, by decide, by decide, by decide, by decide,
    ⟨{ State.reset with store := { State.reset.store with lockLevel := 3 } }, ready_of rfl rfl rfl rfl rfl, by decide⟩,
    by decide, by decide, rfl, by decide, by decide⟩

theorem inItsRange_of {p : Settings} {u : UnitName} {i v lo hi : Nat} (h : numericRange u i = some (lo, hi))
    (hv : lo ≤ v ∧ v ≤ hi) (ha : Agrees p u i v) : InItsRange p u i v :=
  ⟨fun a b hab => by rw [h] at hab; cases hab; exact hv, ha⟩

/-- The first value behind the codes of a kind and the last code, a station at its limit and over it, a prescale that is no
divider, a first threshold on the second and above it, a pressure channel that is no DPRESS channel, and none. -/
theorem witness_ValuesRefused :
    ¬ AmongCodes (.channel 0) 0 6 ∧ AmongCodes (.channel 0) 0 5 ∧ AmongCodes (.door 1) 7 0xFFFF ∧ AmongCodes (.fan 3) 10 3 ∧
    ¬ InItsRange .factory .controller 5 33 ∧ InItsRange .factory .controller 5 32 ∧ ¬ InItsRange .factory (.fan 3) 10 3 ∧
    ¬ InItsRange .factory (.door 1) 7 0 ∧ AmongCodes (.door 1) 7 0 ∧ InItsRange .factory (.door 1) 7 0xFFFF ∧
    Agrees .factory (.channel 0) 5 32767 ∧
    (let p := Settings.factory.withChannel 0 { ChannelSettings.factory with t2 := 100 }
     ¬ InItsRange p (.channel 0) 5 101 ∧ Agrees p (.channel 0) 5 100) ∧
    ¬ InItsRange .factory (.channel 0) 12 1 ∧ kindCode .generic = 5 := by
  refine ⟨fun h => ?_, fun n b h => ?_, fun n b h => ?_, fun n b h => ?_, fun h => ?_, inItsRange_of rfl (by decide) trivial,
    fun h => ?_, fun h => ?_, fun n b h => ?_, ⟨fun lo hi h => ?_, fun c h => ?_⟩, ?_, ⟨fun h => ?_, ?_⟩, fun h => ?_, rfl⟩
  · rcases h 6 false rfl with h | h
    · exact absurd h (by decide)
    · exact absurd h.1 (by decide)
  · cases h; exact .inl (by decide)
  · cases h; exact .inr ⟨rfl, rfl⟩
  · exact absurd (show none = some _ from h) nofun
  · exact absurd (h.1 0 32 rfl).2 (by decide)
  · exact absurd h.2 (by decide : ¬ (3 = 1 ∨ 3 = 2 ∨ 3 = 4 ∨ 3 = 8))
  · exact absurd (h.2 0 rfl) (by decide)
  · cases h; exact .inl (by decide)
  · exact absurd (show none = some _ from h) nofun
  · exact absurd c.isLt (by omega)
  · exact (by decide : ThresholdsHold .generic 32767 32767 32767)
  · exact absurd h.2 (by decide : ¬ ThresholdsHold .generic 101 100 32767)
  · exact (by decide : ThresholdsHold .generic 100 100 32767)
  · exact absurd (h.2 rfl) (by decide)

/-- A state for each clause of `ControllerWrite`, `ChannelWrite`, `FanWrite` and `DoorWrite`. -/
theorem witness_WriteActs :
    (State.reset.line.strap ≠ 0 ∧ State.reset.ctl.pressFan = none ∧ (∃ s : State, s.line.strap = 0) ∧
      ∃ s : State, s.ctl.pressFan = some 2 ∧ someDoorRelieving s = true ∧ 10 < (s.fanCfg 2).relief) ∧
    (demandStage State.reset = State.reset.demand.stage ∧ ∃ s : State, demandStage s ≠ s.demand.stage) ∧
    (∃ s : State, (s.channel 0).state = .fault ∧ (s.channel 0).level ≠ 3) ∧
    (∀ st ∈ [FanState.coasting, .tripped], ∀ off ∈ [0, 600000], ∀ still ∈ [0, 5000],
      let s := withFan0 { fanAt st with offTime := off, standstill := still }
      (s.fan 0).state = st ∧ (s.fan 0).offTime ≤ 600000 ∧ (s.fan 0).standstill ≤ 5000 ∧ s.arbiter.suspended = [] ∧
        ∀ f : Fin 4, s.arbiter.waiting[f] = false) ∧
    (∃ s : State, (s.fan 0).state = .running) ∧
    (let s := (holdsGrant 100).withFan 0 { (holdsGrant 100).fan 0 with reference := 3000 }
     (s.fan 0).state = .starting ∧ 0 ∈ s.arbiter.holders ∧ (s.fan 0).reference = (s.fan 0).target.speed * 10) ∧
    (∀ τ ∈ [599999, 600000], let s := withFan0 { fanAt .off with credits := 5, creditTimer := some τ }
      (s.fan 0).creditTimer = some τ) ∧
    (∀ τ ∈ [4999, 5000], let x := { doorAt .isOpen 4000 with holdOpen := some τ }
      x.holdOpen = some τ ∧ (5 * 1000 ≤ τ ↔ τ = 5000)) ∧
    (State.reset.door 0).travel = none ∧ GoesOn .factory (movingDoor .opening 3989 opening) opening ∧
    (let x := movingDoor .opening 3985 opening
     x.travel = some opening ∧ x.homed = true ∧ x.slot = none ∧ opening.reason ≠ .homing ∧ x.state = .opening ∧
      x.inputs.openStop = false ∧ (4000 : Int) - 15 ≤ x.position) ∧
    (doorAt .closed 0).unlockPolicy = false ∧ (doorAt .closedLocked 0).state = .closedLocked :=
  ⟨⟨by decide, by decide, ⟨State.reset.withLine { State.reset.line with strap := 0 }, rfl⟩,
      ⟨(withDoor0 (relieving true 0)).withCtl { ControllerSettings.factory with pressFan := some 2 }, by decide⟩⟩,
    ⟨by decide, ⟨State.reset.withDemand { stage := 1, floor := 0 }, by decide⟩⟩,
    ⟨withChannel0 { Channel.atReset with state := .fault }, by decide⟩, by decide, ⟨withFan0 (fanAt .running), by decide⟩,
    by decide, by decide, by decide, by decide, goesOn_of (p := 4000) rfl rfl (by decide), by decide, by decide, by decide⟩

theorem witness_ScenariosAreStoredWhole :
    (Ready State.reset 1 ∧ State.reset.store.lockLevel < 2) ∧
    ({ fans := [⟨3, .rev, 1000, 255⟩], doors := [⟨1, .openHold⟩, ⟨0, .keep⟩] } : ScenarioRecord).inRange = true ∧
    (∃ s, Ready s 1 ∧ 2 ≤ s.store.lockLevel) ∧ 15 < (16 : Byte).toNat ∧ 4 < (5 : Byte).toNat ∧ 2 < (3 : Byte).toNat ∧
    [(0 : Byte)].length ≠ 5 * (0 : Byte).toNat + 2 * (0 : Byte).toNat ∧
    (let r : ScenarioRecord := { fans := [⟨3, .rev, 65535, 255⟩], doors := [] }
     (∀ e ∈ r.fans, e.speed ≤ 65535) ∧
      ScenarioRecord.inRange { r with fans := r.fans.map fun e => { e with speed := min e.speed 1000 } } = true) ∧
    ([(0 : Byte), 0].length < 3 ∧ 4 ≤ (4 : Byte).toNat ∧ 2 ≤ (2 : Byte).toNat ∧ 3 ≤ (3 : Byte).toNat ∧
      ¬ [(1 : Byte), 1].Nodup ∧ [(1 : Byte), 1].length = (2 : Byte).toNat) :=
  ⟨⟨ready_of rfl rfl rfl rfl rfl, by decide⟩, by decide,
    ⟨{ State.reset with store := { State.reset.store with lockLevel := 2 } }, ready_of rfl rfl rfl rfl rfl, by decide⟩, by decide,
    by decide, by decide, by decide, by decide, by decide⟩

theorem witness_SaveLockAndReset :
    State.reset.store.snapshot = none ∧ Ready State.reset 1 ∧ State.reset.modes.mode ≠ .incident ∧
    (∃ s, Ready s 1 ∧ s.store.snapshot = some Settings.factory) ∧
    (∃ s, Ready s 1 ∧ (2 : Byte).toNat < s.store.lockLevel ∧ (2 : Byte).toNat ≤ 3) ∧
    3 < (4 : Byte).toNat ∧ State.reset.store.lockLevel ≤ (0 : Byte).toNat ∧ ∃ s, Ready s 1 ∧ s.modes.mode = .incident :=
  ⟨rfl, ready_of rfl rfl rfl rfl rfl, by decide,
    ⟨{ State.reset with store := { State.reset.store with snapshot := some Settings.factory } }, ready_of rfl rfl rfl rfl rfl, rfl⟩,
    ⟨{ State.reset with store := { State.reset.store with lockLevel := 3 } }, ready_of rfl rfl rfl rfl rfl, by decide⟩,
    by decide, by decide, ⟨inMode .incident State.reset, ready_of rfl rfl rfl rfl rfl, rfl⟩⟩

/-- Every unit at both ends of its group, switched off and on, locked out and not, with and without the closed end-stop. -/
theorem witness_SetActiveSwitchesTheUnit :
    (Ready State.reset 1 ∧ State.reset.store.lockLevel < 3 ∧ (1 : Byte).toNat ≤ 1 ∧ 1 < (2 : Byte).toNat) ∧
    (∃ s, Ready s 1 ∧ 3 ≤ s.store.lockLevel) ∧
    (1 : Byte).toNat = channelUnit 0 ∧ (8 : Byte).toNat = channelUnit 7 ∧ (9 : Byte).toNat = fanUnit 0 ∧
    (12 : Byte).toNat = fanUnit 3 ∧ (13 : Byte).toNat = doorUnit 0 ∧ (14 : Byte).toNat = doorUnit 1 ∧
    (∃ s, Ready s 1 ∧ (s.channel 0).state = .inactive) ∧ (State.reset.channel 0).state ≠ .inactive ∧
    (∀ locked ∈ [true, false], let s := withFan0 { fanAt .inactive with lockoutMemory := locked }
      (s.fan 0).state = .inactive ∧ (s.fan 0).lockoutMemory = locked) ∧
    (∀ b ∈ [true, false], ∀ esc ∈ [true, false],
      let s := { withDoor0 { doorAt .inactive 11 with inputs := { doorPinsClear with closedStop := b } } with
        escape := HardLine.taken esc }
      (s.door 0).state = .inactive ∧ (s.door 0).inputs.closedStop = b ∧ s.escape.asserted = esc ∧
        engagedPolicy s.modes.record 0 ≠ .openHold) :=
  ⟨⟨ready_of rfl rfl rfl rfl rfl, by decide⟩,
    ⟨{ State.reset with store := { State.reset.store with lockLevel := 3 } }, ready_of rfl rfl rfl rfl rfl, by decide⟩,
    by decide, by decide, by decide, by decide, by decide, by decide,
    ⟨withChannel0 { Channel.atReset with state := .inactive }, ready_of rfl rfl rfl rfl rfl, by decide⟩, by decide, by decide, by decide⟩

/-- Locked at level 3, a power-on reset lowers the level (R176). -/
theorem witness_EveryCommandAnswersAndKeepsTheQueue :
    ∃ s t, exec (.powerOnReset ⟨1, 0⟩ pinsClear) s = .next t ∧ t.store.lockLevel < s.store.lockLevel :=
  ⟨{ State.reset with store := { State.reset.store with lockLevel := 3 } }, _, rfl, by decide +kernel⟩

theorem noDelay : ∀ f : Fin 4, State.reset.modes.delays[f] = .absent := by decide

/-- A command that waits, so that a step answers at once. -/
def waitingRamp (s : State) : State := s.withPending [.rampInstant 3]

theorem waitingRamp_steps (s : State) : ∃ t, step (waitingRamp s) = .next t := ⟨_, rfl⟩

theorem witness_StepsKeepWindowsAndSettings :
    let x : Channel := { Channel.atReset with slots := [3, 4, 0, 0, 0, 0, 0, 0], writeIndex := 2, fill := 2, sum := 7, average := some 4 }
    let s := waitingRamp (State.reset.withChannel 0 x)
    WindowsOk s ∧ SettingsOk s ∧ ∃ t, step s = .next t := by
  refine ⟨?_, ⟨by decide +kernel, fun h => absurd h (by decide), (fun p h => nomatch h), fun n h => ?_⟩, waitingRamp_steps _⟩
  · intro c
    rcases (by decide : ∀ c : Fin 8, c = 0 ∨ ((State.reset.withChannel 0 (Channel.atReset)).channel c = Channel.atReset ∧ c ≠ 0)) c
      with rfl | ⟨-, h⟩
    · exact ⟨by decide, by decide, by decide, by decide, by decide, by decide, by decide, by decide, fun a h => by cases h; decide⟩
    · have e : ∀ x, (waitingRamp (State.reset.withChannel 0 x)).channel c = Channel.atReset := by
        revert h; revert c; intro c h x
        match c, h with
        | 1, _ | 2, _ | 3, _ | 4, _ | 5, _ | 6, _ | 7, _ => rfl
      rw [e]
      exact ⟨by decide, by decide, by decide, by decide, by decide, by decide, by decide, by decide, fun a h => nomatch h⟩
  · cases h; decide

theorem witness_StepsKeepTheArbiterAndStop :
    (let s := waitingRamp { heldFan with stop := .taken true }
     ArbiterOk s ∧ StopOk s ∧ SettingsOk s ∧ ServedOk s ∧ s.arbiter.holders.length < s.ctl.slotCount ∧
       ∃ t, step s = .next t) ∧
    (ServedOk (slotContest []) ∧ (slotContest []).arbiter.waiting[(1 : Fin 4)] = true) ∧
    ServedOk { urgentFan with arbiter := { urgentFan.arbiter with holders := [3], suspended := [0] } } :=
  ⟨⟨⟨heldFan_arbiterOk.slots, heldFan_arbiterOk.holdersOnce, heldFan_arbiterOk.holdersStart, heldFan_arbiterOk.suspendedOnce,
    heldFan_arbiterOk.suspendedStart, heldFan_arbiterOk.waitingAwait, heldFan_arbiterOk.creditWaitAwait,
    heldFan_arbiterOk.awaits, heldFan_arbiterOk.atRest⟩,
    fun _ => by decide, ⟨by decide +kernel, fun h => absurd h (by decide), (fun p h => nomatch h), fun n h => by cases h; decide⟩,
    ⟨fun _ => ⟨by decide, rfl⟩, (fun h => nomatch h)⟩, by decide, waitingRamp_steps _⟩,
    ⟨⟨fun h => absurd h (by decide), (fun h => nomatch h)⟩, by decide⟩,
    ⟨fun h => absurd h (by decide), fun _ f h => by cases h; decide⟩⟩

/-- A LOCKED_OUT fan without an entry, and an entry for another fan. -/
theorem witness_StepsKeepQueueCreditsAndLockouts :
    let s := inMode .incident (withFan0 { fanAt .lockedOut with credits := 6 })
    let s := waitingRamp (s.withModes { s.modes with record := some { fans := [⟨1, .fwd, 300, 0⟩], doors := [] } })
    QueueOk s ∧ CreditsOk s ∧ LockoutOk s ∧ ∃ t, step s = .next t :=
  ⟨⟨by decide, fun h => nomatch h⟩, by unfold CreditsOk; decide, fun _ => by decide, waitingRamp_steps _⟩

/-- A relieving door with the pressurisation fan at its relief cap. -/
theorem witness_StepsKeepTargetsAndCap :
    TargetsOk (waitingRamp State.reset) ∧
    (let s := (waitingRamp ((withDoor0 (relieving true 0)).withFan 2 { fanAt .running with reference := 2000 })).withCtl
        { ControllerSettings.factory with pressFan := some 2 }
     CapOk s ∧ someDoorRelieving s = true ∧ s.ctl.pressFan = some 2) ∧
    ∃ t, step (waitingRamp State.reset) = .next t := by
  refine ⟨⟨by decide, fun _ => by decide, (fun h => nomatch h), (fun h => nomatch h), fun _ f ms h => ?_⟩,
    ⟨fun f h _ => ?_, by decide, by decide⟩, waitingRamp_steps _⟩
  · have h : State.reset.modes.delays[f] = .running ms := h
    rw [noDelay f] at h
    cases h
  · cases h; decide

theorem witness_StepsKeepDemandAndDoors :
    let s := waitingRamp (withDoor0 { movingDoor .opening 11 opening with slot := some (queued .toClose .step) })
    DemandOk s ∧ DoorsOk s ∧ SlotsAsked s ∧ ∃ t, step s = .next t := by
  refine ⟨by unfold DemandOk; decide, fun d => ?_, fun d n h => ?_, waitingRamp_steps _⟩
  · match d with
    | 0 => exact ⟨by decide, by decide, by decide, by decide⟩
    | 1 => exact ⟨by decide, by decide, by decide, by decide⟩
  · match d with
    | 0 => cases h; exact .inl rfl
    | 1 => cases h

theorem witness_FramesDecodeToTheirRequests :
    (Instr.enumAssign broadcast [0, 1, 2, 3, 4, 5, 32]).wellFormed = true ∧
    ∃ bytes, encodeFrame 0 (.enumAssign broadcast [0, 1, 2, 3, 4, 5, 32]) = some bytes :=
  ⟨by decide, ⟨_, rfl⟩⟩

end Sys2Proof.Tests
end

section
/-! The frame of each event at a fan: it reaches the fans, the feed arbiter and the report queue only. -/

namespace Sys2Proof.Machine

/-! ### Timers and drive (chapters 3 and 4) -/

theorem leaveCoasting_frame (f : Fin 4) (s : State) : FanFrame s (leaveCoasting f s) :=
  ((enterOff_frame f s).trans (reportFanChange_frame ..)).trans (serve_frame _)

theorem leaveTripped_frame (f : Fin 4) (s : State) : FanFrame s (leaveTripped f s) := by
  unfold leaveTripped
  split
  · exact ((enterOff_frame f s).trans (reportFanChange_frame ..)).trans (serve_frame _)
  · exact (FanFrame.withFan _ _ s).trans (reportFan_frame ..)

theorem coastTest_frame (f : Fin 4) (s : State) : FanFrame s (coastTest f s) := by
  unfold coastTest
  split
  · split
    · exact leaveCoasting_frame f s
    · split
      · exact .refl s
      · exact leaveTripped_frame f s
    · exact .refl s
  · exact .refl s

theorem coastConditionsMet_frame (f : Fin 4) (s : State) : FanFrame s (coastConditionsMet f s) := by
  unfold coastConditionsMet
  split
  · exact (FanFrame.withFan _ _ s).trans (coastTest_frame ..)
  · exact (FanFrame.withFan _ _ s).trans (coastTest_frame ..)
  · exact .refl s

theorem faultInputChange_frame (f : Fin 4) (asserted : Bool) (s : State) :
    FanFrame s (faultInputChange f asserted s) := by
  unfold faultInputChange
  refine (FanFrame.withFan f { s.fan f with faultInput := asserted } s).trans ?_
  dsimp only
  split
  · split
    · exact ((trip_frame ..).trans (reportFanChange_frame ..)).trans (serve_frame _)
    · exact .refl _
  · split
    · exact coastTest_frame ..
    · exact .refl _

theorem startLimitExpires_frame (f : Fin 4) (s : State) : FanFrame s (startLimitExpires f s) := by
  unfold startLimitExpires
  split
  · exact ((enterRunning_frame f true s).trans (reportFan_frame ..)).trans (serve_frame _)
  · exact ((trip_frame f _ s).trans (reportFanChange_frame ..)).trans (serve_frame _)

theorem startLimitExpiry_frame (f : Fin 4) (s : State) : FanFrame s (startLimitExpiry f s) := by
  unfold startLimitExpiry
  split
  · exact startLimitExpires_frame f s
  · exact .refl s

theorem startLimitWritten_frame (f : Fin 4) (s : State) : FanFrame s (startLimitWritten f s) :=
  (FanFrame.withFan _ _ s).trans (startLimitExpiry_frame ..)

theorem verifyWindowExpiry_frame (f : Fin 4) (s : State) : FanFrame s (verifyWindowExpiry f s) := by
  unfold verifyWindowExpiry
  split
  · split
    · split
      · exact .refl s
      · exact (reportFan_frame f _ s).trans (.withFan ..)
    · exact ((trip_frame f _ s).trans (reportFanChange_frame ..)).trans (serve_frame _)
  · exact .refl s

theorem testStartPhase_frame (f : Fin 4) (s : State) : FanFrame s (testStartPhase f s) :=
  (startPhaseTest_frame f s).trans (serve_frame _)

theorem rampStarting_frame (f : Fin 4) (s : State) : FanFrame s (rampStarting f s) := by
  have stepped : FanFrame s (stepReference f ((s.fan f).target.speed * 10) s) := .withFan ..
  have advanced := stepped.trans (FanFrame.withFan f _ _ : FanFrame _ (advanceStartTimer f _))
  unfold rampStarting
  dsimp only
  split
  · split
    · split
      · exact (stepped.trans (.nextChoice _)).trans (testStartPhase_frame ..)
      · exact (advanced.trans (.nextChoice _)).trans (startLimitExpires_frame ..)
    · exact stepped.trans (testStartPhase_frame ..)
  · exact advanced

theorem rampInstant_frame (f : Fin 4) (s : State) : FanFrame s (rampInstant f s) := by
  unfold rampInstant
  split
  case h_1 =>
    split
    · exact rampStarting_frame f s
    · exact .refl s
  case h_2 => exact (FanFrame.withFan _ _ s).trans (.withFan ..)
  case h_3 =>
    have stepped : FanFrame s (stepReference f 0 s) := .withFan ..
    dsimp only
    split
    · exact ((stepped.trans (enterCoasting_frame ..)).trans (reportFanChange_frame ..)).trans (serve_frame _)
    · exact stepped
  all_goals exact .refl s

theorem joinOnCredit_frame (f : Fin 4) (s : State) : FanFrame s (joinOnCredit f s) := by
  unfold joinOnCredit
  split
  · exact ((FanFrame.withArbiter _ s).trans (.withFan ..)).trans (serve_frame _)
  · exact .refl s

theorem creditRegeneration_frame (f : Fin 4) (s : State) : FanFrame s (creditRegeneration f s) := by
  unfold creditRegeneration
  split
  · exact (FanFrame.withFan _ _ s).trans (joinOnCredit_frame ..)
  · exact .refl s

/-! ### The tach input (chapter 4) -/

theorem FanFrame.withTach (f : Fin 4) (t : Tach) (s : State) : FanFrame s (s.withTach f t) := .withFan ..

theorem handRpm_frame (f : Fin 4) (s : State) : FanFrame s (handRpm f s) := by
  have standstill : FanFrame s
      (if (s.fan f).tach.rpm = 0 then s else s.withFan f { s.fan f with standstill := 0 }) := by
    split
    · exact .refl s
    · exact .withFan ..
  unfold handRpm
  refine standstill.trans ?_
  dsimp only
  generalize (if (s.fan f).tach.rpm = 0 then s else _ : State) = u
  split
  · exact testStartPhase_frame ..
  · split
    · exact .withFan ..
    · exact .refl _
  · exact .refl _

theorem tachExpires_frame (f : Fin 4) (s : State) : FanFrame s (tachExpires f s) :=
  (FanFrame.withTach _ _ s).trans (handRpm_frame ..)

theorem tachTimeout_frame (f : Fin 4) (s : State) : FanFrame s (tachTimeout f s) := by
  unfold tachTimeout
  split
  · exact tachExpires_frame f s
  · exact .refl s

theorem prescaledEdge_frame (f : Fin 4) (s : State) : FanFrame s (prescaledEdge f s) := by
  unfold prescaledEdge
  dsimp only
  split
  · split
    · exact .withTach ..
    · exact (FanFrame.withTach _ _ s).trans (handRpm_frame ..)
  · exact .withTach ..

theorem takeTachSettings_frame (f : Fin 4) (s : State) : FanFrame s (takeTachSettings f s) := by
  unfold takeTachSettings
  dsimp only
  split
  · exact (FanFrame.withTach _ _ s).trans (handRpm_frame ..)
  · exact .withTach ..

/-- The timeout of the tach input, where it is taken, and the time that then runs (R69). -/
theorem tachRuns_frame (f : Fin 4) (us : Nat) (expires : Bool) (s : State) :
    FanFrame s (let s := if expires then tachExpires f s else s
      s.withTach f ((s.fan f).tach.run us)) := by
  refine FanFrame.trans ?_ (.withTach ..)
  split
  · exact tachExpires_frame f s
  · exact .refl s

theorem tachPasses_frame (f : Fin 4) (us : Nat) (s : State) : FanFrame s (tachPasses f us s) := tachRuns_frame ..

theorem tachReachesEdge_frame (f : Fin 4) (us : Nat) (s : State) : FanFrame s (tachReachesEdge f us s) :=
  tachRuns_frame ..

theorem takeEdge_frame (f : Fin 4) (s : State) : FanFrame s (takeEdge f s) := by
  unfold takeEdge
  refine (FanFrame.withTach f { (s.fan f).tach with level := (s.fan f).tach.pin, disagreement := 0 } s).trans ?_
  dsimp only
  split
  · exact takeTachSettings_frame ..
  · split
    · unfold countEdge
      dsimp only
      split
      · exact prescaledEdge_frame ..
      · exact .withTach ..
    · exact .refl _

theorem tachTakesSamples_frame (f : Fin 4) (n : Nat) (s : State) : FanFrame s (tachTakesSamples f n s) := by
  unfold tachTakesSamples
  dsimp only
  split
  · exact .refl s
  · split
    · exact (FanFrame.withTach _ _ s).trans (tachPasses_frame ..)
    · split
      · exact (FanFrame.withTach _ _ s).trans (tachPasses_frame ..)
      · exact ((tachReachesEdge_frame f _ s).trans (takeEdge_frame ..)).trans (tachPasses_frame ..)

theorem acceptedEdge_frame (f : Fin 4) (high : Bool) (samples : Nat) (s : State) :
    FanFrame s (acceptedEdge f high samples s) :=
  (FanFrame.withTach _ _ s).trans (tachTakesSamples_frame ..)

/-! ### Modes, STOP and requests (chapters 8 and 9) -/

theorem discardSetpoints_frame (s : State) : FanFrame s (discardSetpoints s) :=
  .takeEach _ (fun _ _ => .withFan ..) _ s

theorem clearLockout_frame (f : Fin 4) (s : State) : FanFrame s (clearLockout f s) :=
  (((FanFrame.withFan _ _ s).trans (enterOff_frame ..)).trans (reportFanChange_frame ..)).trans (serve_frame _)

theorem clearIfEntered_frame (f : Fin 4) (s : State) : FanFrame s (clearIfEntered f s) := by
  unfold clearIfEntered
  split
  · exact clearLockout_frame f s
  · exact .refl s

theorem waitForCredit_frame (f : Fin 4) (s : State) : FanFrame s (waitForCredit f s) := by
  unfold waitForCredit
  split
  · exact (FanFrame.withArbiter _ s).trans (.withFan ..)
  · exact .refl s

theorem joinInIncident_frame (f : Fin 4) (s : State) : FanFrame s (joinInIncident f s) := joinOnCredit_frame f s

theorem restartVerify_frame (f : Fin 4) (s : State) : FanFrame s (restartVerify f s) := by
  unfold restartVerify
  split
  · exact .withFan ..
  · exact .refl s

theorem stopFan_frame (f : Fin 4) (s : State) : FanFrame s (stopFan f s) := by
  unfold stopFan
  split
  case h_1 | h_2 | h_3 | h_4 => exact (FanFrame.withFan _ _ s).trans (reportFan_frame ..)
  all_goals exact .refl s

theorem resumeFan_frame (c : FanCause) (f : Fin 4) (s : State) : FanFrame s (resumeFan c f s) := by
  unfold resumeFan
  split
  · exact ((reapply_frame f s).trans (reportFanChange_frame ..)).trans (serve_frame _)
  · exact .refl s

theorem resumeFans_frame (s : State) : FanFrame s (resumeFans s) := by
  unfold resumeFans
  split
  · exact (FanFrame.takeEach _ (fun _ _ => .withFan ..) _ s).trans (.takeInAnyOrder _ (resumeFan_frame _) _ _)
  · exact .refl s

theorem takeSetpoint_frame (f : Fin 4) (t : Target) (s : State) : FanFrame s (takeSetpoint f t s) :=
  (FanFrame.withFan _ _ s).trans (setModeTarget_frame ..)

theorem fanOff_frame (f : Fin 4) (s : State) : FanFrame s (fanOff f s) := by
  unfold fanOff
  split
  · exact .refl s
  · exact ((leaveArbiter_frame f s).trans (.withFan ..)).trans (serve_frame _)

theorem fanOn_frame (f : Fin 4) (s : State) : FanFrame s (fanOn f s) := by
  unfold fanOn
  dsimp only
  split
  · split
    · split <;> exact .withFan ..
    · exact .withFan ..
  · exact .refl s

/-! ### Parameter writes (R46, R54, R73, R89, R126, R127) -/

theorem retarget_frame (f : Fin 4) (s : State) : FanFrame s (retarget f s) := by
  unfold retarget
  split
  · exact refreshAuto_frame f s
  · exact recompose_frame f s

theorem clampReference_frame_ite (b : Bool) (f : Fin 4) (s : State) :
    FanFrame s (if b then clampReference f s else s) := by
  split
  · exact clampReference_frame f s
  · exact .refl s

theorem pressFanChanged_frame (old : Option (Fin 4)) (s : State) : FanFrame s (pressFanChanged old s) := by
  have clamped : FanFrame s (match s.ctl.pressFan with
      | some f => if someDoorRelieving s then clampReference f s else s
      | none => s) := by
    split
    · exact clampReference_frame_ite ..
    · exact .refl s
  exact (clamped.trans (.takeInAnyOrder retarget retarget_frame _ _)).trans (reviewUrgency_frame _)

theorem reliefChanged_frame (f : Fin 4) (old : Settings) (s : State) : FanFrame s (reliefChanged f old s) := by
  unfold reliefChanged
  split
  · exact (clampReference_frame_ite ..).trans (recompose_frame ..)
  · exact .refl s

theorem pulsesChanged_frame (f : Fin 4) (s : State) : FanFrame s (pulsesChanged f s) := by
  unfold pulsesChanged
  refine FanFrame.trans ?_ ((testStartPhase_frame f _).trans (coastTest_frame ..))
  split
  · exact .withFan ..
  · exact .refl s

theorem intervalChanged_frame (f : Fin 4) (s : State) : FanFrame s (intervalChanged f s) := by
  unfold intervalChanged
  split
  · exact (FanFrame.withFan _ _ s).trans (joinOnCredit_frame ..)
  · exact .refl s

theorem fanChanged_frame (f : Fin 4) (index : Nat) (old : Settings) (s : State) :
    FanFrame s (fanChanged f index old s) := by
  unfold fanChanged
  split
  case h_6 | h_7 => exact coastTest_frame f s
  case h_8 => exact pulsesChanged_frame f s
  case h_9 | h_10 => exact testStartPhase_frame f s
  case h_11 => exact verifyWindowExpiry_frame f s
  case h_12 => exact startLimitWritten_frame f s
  case h_13 => exact .withFan ..
  case h_14 => exact intervalChanged_frame f s
  case h_16 =>
    split
    · exact recompose_frame f s
    · exact .refl s
  case h_17 => exact reliefChanged_frame f old s
  case h_18 => exact .refl s
  all_goals exact refreshAuto_frame f s

end Sys2Proof.Machine
end

section
/-! What each event at a door does to the travel, the slot and the timers of that door: the consistency of a door (`DoorOk`)
and the records that its slot may hold (`SlotAsked`), each kept along the operations that one event is made of. -/

namespace Sys2Proof.Machine

/-! ### When a door is consistent (R93, R97, R113, R120) -/

theorem travelling_of_motor {x : Door} (h : x.motorOpen = true ∨ x.motorClose = true) : travelling x.state = true := by
  simp only [Door.motorOpen, Door.motorClose, beq_iff_eq] at h
  obtain h | h := h
  · rw [h]; rfl
  · rw [h]; rfl

/-- A door at rest is consistent once its travel and its slot are empty. -/
theorem DoorOk.rests {x : Door} (hs : travelling x.state = false) (ht : x.travel = none) (hq : x.slot = none) :
    DoorOk x where
  current := by simp [hs, ht]
  slotEmpty _ := hq
  timed h := by simp [travelling_of_motor h] at hs
  relief h := by simp [h, travelling] at hs

/-- A travelling door is consistent with its current travel and the timers of its state, whatever its slot holds. -/
theorem DoorOk.moves {x : Door} (hs : travelling x.state = true) (ht : x.travel.isSome = true)
    (hm : x.state = .opening ∨ x.state = .closing → x.travelTimer.isSome = true)
    (hr : x.state = .relieving → x.reliefChannel.isSome = true ∧ x.reliefTimer.isSome = true) : DoorOk x where
  current := ht.trans hs.symm
  slotEmpty h := by simp [hs] at h
  timed h := hm (by simpa [Door.motorOpen, Door.motorClose] using h)
  relief := hr

/-- `y` agrees with `x` in all that `DoorOk` reads of a door, except that its slot may have been emptied. -/
structure SameTravel (x y : Door) : Prop where
  state : y.state = x.state := by rfl
  travel : y.travel.isSome = x.travel.isSome := by rfl
  slot : y.slot = x.slot ∨ y.slot = none := by exact .inl rfl
  travelTimer : y.travelTimer.isSome = x.travelTimer.isSome := by rfl
  reliefChannel : y.reliefChannel.isSome = x.reliefChannel.isSome := by rfl
  reliefTimer : y.reliefTimer.isSome = x.reliefTimer.isSome := by rfl

theorem DoorOk.of_same {x y : Door} (h : DoorOk x) (k : SameTravel x y) : DoorOk y where
  current := by rw [k.travel, k.state, h.current]
  slotEmpty hs := k.slot.elim (fun e => e.trans (h.slotEmpty (k.state ▸ hs))) id
  timed hm := by
    rw [k.travelTimer]
    exact h.timed (by simpa [Door.motorOpen, Door.motorClose, k.state] using hm)
  relief hs := by
    rw [k.reliefChannel, k.reliefTimer]
    exact h.relief (k.state ▸ hs)

/-! ### One event at one door -/

/-- An event at door `d` that keeps the door consistent and its slot as R101 has it, each by itself. -/
structure DoorKept (d : Fin 2) (s t : State) : Prop where
  one : OneDoor d s t
  ok : DoorOk (s.door d) → DoorOk (t.door d)
  asked : SlotAsked (s.door d) → SlotAsked (t.door d)

theorem DoorKept.refl (d : Fin 2) (s : State) : DoorKept d s s := ⟨.refl d s, id, id⟩

theorem DoorKept.trans {d : Fin 2} {s t u : State} (a : DoorKept d s t) (b : DoorKept d t u) : DoorKept d s u :=
  ⟨a.one.trans b.one, b.ok ∘ a.ok, b.asked ∘ a.asked⟩

theorem DoorKept.fan {d : Fin 2} {s t : State} (h : FanFrame s t) : DoorKept d s t :=
  ⟨.fan h, fun k => h.door d ▸ k, fun k => h.door d ▸ k⟩

theorem DoorKept.withDoor {d : Fin 2} {s : State} {x : Door} (k : SameTravel (s.door d) x) :
    DoorKept d s (s.withDoor d x) :=
  ⟨.withDoor d x s, fun h => by simpa using h.of_same k, fun h => by simpa using h.of_slot k.slot⟩

/-- An event that first writes an item of the door on which no travel depends. -/
theorem DoorKept.after {d : Fin 2} {s t : State} {x : Door} (h : DoorKept d (s.withDoor d x) t)
    (k : SameTravel (s.door d) x) : DoorKept d s t := (DoorKept.withDoor k).trans h

theorem DoorKept.report (d : Fin 2) (u : Nat) (r : ReportData) (s : State) : DoorKept d s (report u r s) :=
  .fan (.report u r s)

theorem clearSlot_kept (d : Fin 2) (s : State) : DoorKept d s (clearSlot d s) :=
  .withDoor { slot := .inr rfl }

theorem raiseCurrent_kept (d : Fin 2) (s : State) : DoorKept d s (raiseCurrent d s) :=
  .withDoor { travel := by simp, slot := .inr rfl }

theorem startReopen_kept (d : Fin 2) (b : Bool) (s : State) : DoorKept d s (startReopen d b s) := by
  unfold startReopen
  dsimp only
  split
  · exact .withDoor {}
  · exact .refl d s

theorem updateCreep_kept (d : Fin 2) (s : State) : DoorKept d s (updateCreep d s) :=
  .withDoor {}

/-! ### The door after an entry into a state -/

@[simp] theorem Door.entered_state (cfg : DoorSettings) (st : DoorState) (x : Door) : (x.entered cfg st).state = st := rfl
@[simp] theorem Door.entered_travel (cfg : DoorSettings) (st : DoorState) (x : Door) :
    (x.entered cfg st).travel = x.travel := rfl
@[simp] theorem Door.entered_slot (cfg : DoorSettings) (st : DoorState) (x : Door) :
    (x.entered cfg st).slot = x.slot := rfl

@[simp] theorem enterDoor_door (d : Fin 2) (st : DoorState) (s : State) :
    (enterDoor d st s).door d = (s.door d).entered (s.doorCfg d) st := by
  simp [enterDoor, (handDoorChange_frame _ _).door]

/-- A travelling door enters a state of rest: consistent where its travel and its slot have been emptied before. -/
theorem enterDoor_rests {d : Fin 2} {st : DoorState} {s : State} (hs : travelling st = false)
    (ht : (s.door d).travel = none) (hq : (s.door d).slot = none) : DoorOk ((enterDoor d st s).door d) := by
  simp only [enterDoor_door]
  exact .rests hs ht hq

/-- A door at rest enters another state of rest. -/
theorem enterDoor_kept {d : Fin 2} {st : DoorState} {s : State} (hs : travelling st = false)
    (hx : travelling (s.door d).state = false) : DoorKept d s (enterDoor d st s) where
  one := enterDoor_oneDoor d st s
  ok h := enterDoor_rests hs (by simpa [hx] using h.current) (h.slotEmpty hx)
  asked h := h.of_slot (.inl (by simp))

theorem relock_kept (d : Fin 2) (s : State) : DoorKept d s (relock d s) := by
  unfold relock
  split
  · next h => exact enterDoor_kept rfl (by simp [h.1, travelling])
  · exact .refl d s

/-! ### Travels start (R96, R97, R119, R120) -/

@[simp] theorem setCurrent_door (d : Fin 2) (t : Travel) (s : State) :
    (setCurrent d t s).door d = (s.door d).makeCurrent (s.doorCfg d) t := by simp [setCurrent]

@[simp] theorem runMotor_slot (d : Fin 2) (dir : DoorDir) (s : State) :
    ((runMotor d dir s).door d).slot = (s.door d).slot := by simp [runMotor, updateCreep]

@[simp] theorem runMotor_travel (d : Fin 2) (dir : DoorDir) (s : State) :
    ((runMotor d dir s).door d).travel = (s.door d).travel := by simp [runMotor, updateCreep]

theorem runMotor_state (d : Fin 2) (dir : DoorDir) (s : State) :
    ((runMotor d dir s).door d).state = .opening ∨ ((runMotor d dir s).door d).state = .closing := by
  cases dir
  · exact .inl (by simp [runMotor, updateCreep])
  · exact .inr (by simp [runMotor, updateCreep])

theorem runMotor_timer (d : Fin 2) (dir : DoorDir) (s : State) :
    ((runMotor d dir s).door d).travelTimer = some 0 := by
  cases dir <;> simp [runMotor, updateCreep, Door.entered, Door.dropReopen, Door.startHold]

/-- A door whose motor starts is consistent, whatever it was before, once a travel is current. -/
theorem runMotor_ok {d : Fin 2} {dir : DoorDir} {s : State} (ht : (s.door d).travel.isSome = true) :
    DoorOk ((runMotor d dir s).door d) := by
  refine .moves ?_ (by simpa using ht) (fun _ => by simp [runMotor_timer]) (fun h => ?_)
  · obtain h | h := runMotor_state d dir s <;> simp [h, travelling]
  · obtain k | k := runMotor_state d dir s <;> simp [k] at h

theorem endRelief_slot (d : Fin 2) (o : ReliefOutcome) (s : State) :
    ((endRelief d o s).door d).slot = (s.door d).slot := by simp [endRelief]

theorem endRelief_ok {d : Fin 2} {o : ReliefOutcome} {s : State} (ht : (s.door d).travel.isSome = true) :
    DoorOk ((endRelief d o s).door d) := by
  unfold endRelief
  exact runMotor_ok (by simpa using ht)

theorem endRelief_kept {d : Fin 2} {o : ReliefOutcome} {s : State} (hs : (s.door d).state = .relieving) :
    DoorKept d s (endRelief d o s) where
  one := endRelief_oneDoor d o s
  ok h := endRelief_ok (by simp [h.current, hs, travelling])
  asked h := h.of_slot (.inl (endRelief_slot d o s))

theorem enterRelieving_slot (d : Fin 2) (c : Fin 8) (s : State) :
    ((enterRelieving d c s).door d).slot = (s.door d).slot := by
  unfold enterRelieving
  dsimp only
  split
  · simp [endRelief_slot]
  · simp

theorem enterRelieving_ok {d : Fin 2} {c : Fin 8} {s : State} (ht : (s.door d).travel.isSome = true) :
    DoorOk ((enterRelieving d c s).door d) := by
  unfold enterRelieving
  dsimp only
  split
  · exact endRelief_ok (by simpa using ht)
  · exact .moves (by simp [travelling]) (by simpa using ht) (by simp)
      (by simp [Door.entered, Door.dropReopen, Door.startHold])

theorem pressureCheck_slot (d : Fin 2) (s : State) : ((pressureCheck d s).door d).slot = (s.door d).slot := by
  unfold pressureCheck
  split
  · simp
  · split
    · simp
    · exact enterRelieving_slot ..

theorem pressureCheck_ok {d : Fin 2} {s : State} (ht : (s.door d).travel.isSome = true) :
    DoorOk ((pressureCheck d s).door d) := by
  unfold pressureCheck
  split
  · exact runMotor_ok ht
  · split
    · exact runMotor_ok ht
    · exact enterRelieving_ok ht

/-- A record that a homing travel may put behind itself in the slot of an UNHOMED door is one that was asked for (R101,
R110). -/
def Homes (x : Door) (t : Travel) : Prop :=
  x.state = .unhomed → (x.raised t).reason ≠ .escape → t.reason = .supervisory ∨ t.reason = .service

theorem Homes.of_asked {x : Door} {t : Travel} (h : t.reason = .supervisory ∨ t.reason = .service) : Homes x t :=
  fun _ _ => h

theorem Homes.of_state {x : Door} {t : Travel} (h : x.state ≠ .unhomed) : Homes x t := fun hu => absurd hu h

theorem Homes.escapeTravel (x : Door) : Homes x escapeTravel := by
  intro _ h
  refine absurd ?_ h
  unfold Door.raised
  split <;> rfl

@[simp] theorem placeInSlot_door (d : Fin 2) (t : Travel) (s : State) :
    (placeInSlot d t s).door d = { s.door d with slot := some t } := by
  unfold placeInSlot
  dsimp only
  split <;> simp

/-- Whatever state a door is in, a travel that begins leaves it consistent (R97). -/
theorem beginTravel_ok (d : Fin 2) (t : Travel) (s : State) : DoorOk ((beginTravel d t s).door d) := by
  unfold beginTravel
  dsimp only
  split
  · exact runMotor_ok (by simp [Door.makeCurrent])
  · split
    · exact .moves (by simp [travelling]) (by simp [Door.makeCurrent]) (by simp) (by simp)
    · split
      · exact pressureCheck_ok (by simp [Door.makeCurrent])
      · exact runMotor_ok (by simp [Door.makeCurrent])

theorem beginTravel_asked {d : Fin 2} {t : Travel} {s : State} (ht : Homes (s.door d) t)
    (h : SlotAsked (s.door d)) : SlotAsked ((beginTravel d t s).door d) := by
  unfold beginTravel
  dsimp only
  split
  · next hu =>
    intro n hn
    have : t = n := by simpa [Door.makeCurrent] using hn
    exact this ▸ ht hu.1 hu.2
  · refine h.of_slot (.inl ?_)
    split
    · simp [Door.makeCurrent]
    · split
      · simp [pressureCheck_slot, Door.makeCurrent]
      · simp [Door.makeCurrent]

/-! ### Travels end (R99, R100, R103) -/

@[simp] theorem doneReport_door (d : Fin 2) (t : Travel) (e : Termination) (s : State) :
    (doneReport d t e s).door d = { s.door d with travel := none, travelTimer := none, creep := false } := by
  simp [doneReport]

/-- A travel that is not reversed leaves its door at rest, before the slot is considered (R100). -/
theorem restState_rests (cfg : DoorSettings) (x : Door) (t : Travel) (e : Termination) :
    travelling (x.restState cfg t e) = false := by
  unfold Door.restState
  split_ifs <;> rfl

theorem considerSlot_ok {d : Fin 2} {s : State} (hs : travelling (s.door d).state = false)
    (ht : (s.door d).travel = none) : DoorOk ((considerSlot d s).door d) := by
  unfold considerSlot
  split
  · exact beginTravel_ok ..
  · next hq => exact (relock_kept d s).ok (.rests hs ht hq)

theorem considerSlot_asked {d : Fin 2} {s : State} (h : SlotAsked (s.door d)) :
    SlotAsked ((considerSlot d s).door d) := by
  unfold considerSlot
  split
  · next hn => exact beginTravel_asked (.of_asked (h _ hn)) ((clearSlot_kept d s).asked h)
  · exact (relock_kept d s).asked h

/-- The reverse travel moves the door and leaves its slot (R103). -/
theorem reverse_ok (d : Fin 2) (t : Travel) (s : State) : DoorOk ((reverse d t s).door d) := by
  unfold reverse
  exact runMotor_ok (by simp [Door.makeCurrent])

theorem reverse_slot (d : Fin 2) (t : Travel) (s : State) : ((reverse d t s).door d).slot = (s.door d).slot := by
  simp only [reverse, runMotor_slot, setCurrent_door, Door.makeCurrent, State.withDoor_door_self]
  split <;> rfl

theorem finishTravel_kept (d : Fin 2) (e : Termination) (s : State) : DoorKept d s (finishTravel d e s) where
  one := finishTravel_oneDoor d e s
  ok h := by
    unfold finishTravel
    split
    · exact h
    · dsimp only
      split
      · exact enterDoor_rests rfl (by simp [clearSlot]) (by simp [clearSlot])
      · split
        · exact reverse_ok ..
        · exact considerSlot_ok (by simp [restState_rests]) (by simp)
  asked h := by
    unfold finishTravel
    split
    · exact h
    · dsimp only
      split
      · exact .of_empty (by simp [clearSlot])
      · split
        · exact h.of_slot (.inl (by simp [reverse_slot]))
        · exact considerSlot_asked (h.of_slot (.inl (by simp)))

theorem testsFor_kept (n : Nat) (edge obstructed : Bool) (d : Fin 2) (s : State) :
    DoorKept d s (testsFor n edge obstructed d s) := by
  induction n generalizing edge obstructed s with
  | zero => exact startReopen_kept ..
  | succ n ih =>
    unfold testsFor
    split
    · exact startReopen_kept ..
    · refine DoorKept.trans ?_ (ih _ _ _)
      split
      · exact (clearSlot_kept ..).trans (finishTravel_kept ..)
      · exact finishTravel_kept ..

theorem testTravel_kept (d : Fin 2) (s : State) : DoorKept d s (testTravel d s) := testsFor_kept ..
theorem testStart_kept (d : Fin 2) (s : State) : DoorKept d s (testStart d s) := testsFor_kept ..

theorem startTravel_kept {d : Fin 2} {t : Travel} {s : State} (ht : Homes (s.door d) t) :
    DoorKept d s (startTravel d t s) :=
  .trans ⟨beginTravel_oneDoor d t s, fun _ => beginTravel_ok d t s, beginTravel_asked ht⟩ (testStart_kept ..)

theorem endTravel_kept (d : Fin 2) (e : Termination) (s : State) : DoorKept d s (endTravel d e s) :=
  (finishTravel_kept d e s).trans (testStart_kept ..)

theorem placeInSlot_kept {d : Fin 2} {t : Travel} {s : State} (hs : travelling (s.door d).state = true)
    (ht : t.reason = .supervisory ∨ t.reason = .service) : DoorKept d s (placeInSlot d t s) where
  one := placeInSlot_oneDoor d t s
  ok h := by
    simp only [placeInSlot_door]
    exact ⟨h.current, fun hr => by simp [hs] at hr, h.timed, h.relief⟩
  asked _ n hn := by
    have : t = n := by simpa using hn
    exact this ▸ ht

/-! ### Escape requests (R98, R105, R106) -/

/-- The CLOSE travel of a travelling door gives way to the escape travel. -/
theorem abortToEscape_kept {d : Fin 2} {s : State} (hs : travelling (s.door d).state = true) :
    DoorKept d s (abortToEscape d s) := by
  have hd : (abortToEscape d s).door d = { s.door d with slot := none }.makeCurrent (s.doorCfg d) escapeTravel := by
    unfold abortToEscape
    dsimp only
    split <;> simp [clearSlot]
  refine ⟨abortToEscape_oneDoor d s, fun h => ?_, fun h => .of_empty (by simp [hd, Door.makeCurrent])⟩
  exact hd ▸ h.of_same { travel := by simp [Door.makeCurrent, h.current, hs], slot := .inr rfl }

/-- The motor of a door with a current travel starts in a direction. -/
theorem runMotor_kept {d : Fin 2} {dir : DoorDir} {s : State} (hs : travelling (s.door d).state = true) :
    DoorKept d s (runMotor d dir s) where
  one := runMotor_oneDoor d dir s
  ok h := runMotor_ok (h.current.trans hs)
  asked h := h.of_slot (.inl (runMotor_slot d dir s))

theorem escapeActs_kept (d : Fin 2) (s : State) : DoorKept d s (escapeActs d s) := by
  unfold escapeActs
  split
  case h_6 hs =>
    have ht : travelling (s.door d).state = true := by simp [hs, travelling]
    have ha : travelling ((abortToEscape d s).door d).state = true := by
      unfold abortToEscape
      dsimp only
      split <;> simpa [clearSlot, Door.makeCurrent] using ht
    exact ((abortToEscape_kept ht).trans (runMotor_kept ha)).trans (testStart_kept ..)
  case h_7 hs =>
    split
    · exact abortToEscape_kept (by simp [hs, travelling])
    · exact raiseCurrent_kept ..
  case h_8 | h_9 => exact raiseCurrent_kept ..
  case h_10 => exact .withDoor {}
  case h_11 => exact .refl d s
  all_goals exact startTravel_kept (.escapeTravel _)

theorem putSource_kept (d : Fin 2) (b : Bool) (src : EscapeSource) (s : State) : DoorKept d s (putSource d b src s) :=
  .after (.fan (reviewUrgency_frame _)) {}

theorem arrive_kept (d : Fin 2) (src : EscapeSource) (s : State) : DoorKept d s (arrive d src s) := by
  unfold arrive
  split
  · exact .refl d s
  · have acts := (((DoorKept.withDoor (s := s) (x := { s.door d with escape := (s.door d).escape.put true src })
      ⟨rfl, rfl, .inl rfl, rfl, rfl, rfl⟩).trans (.report d (doorUnit d) (.doorRequest src) _)).trans
      (.fan (reviewUrgency_frame _))).trans (escapeActs_kept d _)
    dsimp only
    split
    · exact acts.trans (putSource_kept ..)
    · exact acts

theorem removeSource_kept (d : Fin 2) (src : EscapeSource) (s : State) : DoorKept d s (removeSource d src s) := by
  unfold removeSource
  split
  · dsimp only
    split
    · exact putSource_kept ..
    · exact (putSource_kept ..).trans (.withDoor {})
  · exact .refl d s

/-! ### Position, end-stops and switch inputs (R95, R99, R102 to R104, R107) -/

theorem leaveClosed_kept (d : Fin 2) (b : Bool) (s : State) : DoorKept d s (leaveClosed d b s) := by
  unfold leaveClosed
  split
  · next h => exact enterDoor_kept rfl (by simp [h.1, travelling])
  · exact .refl d s

theorem positionChanged_kept (d : Fin 2) (b : Bool) (s : State) : DoorKept d s (positionChanged d b s) :=
  ((updateCreep_kept d s).trans (testTravel_kept ..)).trans (leaveClosed_kept ..)

theorem encoderEdge_kept (d : Fin 2) (edge : QuadEdge) (s : State) : DoorKept d s (encoderEdge d edge s) := by
  unfold encoderEdge
  split
  · exact .refl d s
  · exact .after (positionChanged_kept ..) {}
  · exact .after (positionChanged_kept ..) {}

theorem endStopAsserted_kept (d : Fin 2) (stop : EndStop) (b : Bool) (s : State) :
    DoorKept d s (endStopAsserted d stop b s) := by
  unfold endStopAsserted
  extract_lets _ u
  have homed : DoorKept d s u := .withDoor {}
  clear_value u
  refine homed.trans ?_
  split
  · next hu =>
    have rests : travelling (u.door d).state = false := by simp [hu, travelling]
    cases stop
    · exact enterDoor_kept rfl rests
    · exact (enterDoor_kept rfl rests).trans (relock_kept ..)
  · exact positionChanged_kept ..

theorem endStopChange_kept (d : Fin 2) (stop : EndStop) (asserted : Bool) (s : State) :
    DoorKept d s (endStopChange d stop asserted s) := by
  unfold endStopChange
  dsimp only
  split
  · exact .refl d s
  · refine .after (x := { s.door d with inputs := setEndStop (s.door d).inputs asserted stop })
      ?_ {}
    split
    · exact endStopAsserted_kept ..
    · exact (testTravel_kept ..).trans (leaveClosed_kept ..)

theorem safetyEdgeChange_kept (d : Fin 2) (asserted : Bool) (s : State) :
    DoorKept d s (safetyEdgeChange d asserted s) := by
  unfold safetyEdgeChange
  dsimp only
  split
  · exact .refl d s
  · exact .after (testStart_kept ..) {}

theorem presenceChange_kept (d : Fin 2) (asserted : Bool) (s : State) :
    DoorKept d s (presenceChange d asserted s) := by
  unfold presenceChange
  dsimp only
  split
  · exact .refl d s
  · split <;> exact .withDoor {}

theorem escapeButtonPress_kept (d : Fin 2) (side : EscapeSide) (pressed : Bool) (s : State) :
    DoorKept d s (escapeButtonPress d side pressed s) := by
  unfold escapeButtonPress
  refine .after (x := { s.door d with inputs := setEscapeButton (s.door d).inputs pressed side })
    ?_ {}
  split
  · exact arrive_kept ..
  · exact .refl d _

theorem serviceButtonPress_kept (d : Fin 2) (dir : DoorDir) (s : State) :
    DoorKept d s (serviceButtonPress d dir s) := by
  unfold serviceButtonPress
  refine .after (x := { s.door d with inputs := setServiceButton (s.door d).inputs true dir })
    ?_ {}
  dsimp only
  split
  · exact startTravel_kept (.of_asked (.inr rfl))
  · exact testTravel_kept ..

theorem serviceButtonRelease_kept (d : Fin 2) (dir : DoorDir) (s : State) :
    DoorKept d s (serviceButtonRelease d dir s) :=
  .after (testTravel_kept ..) {}

/-! ### Door timers and relief (R98, R99, R104, R107, R121 to R124) -/

theorem settleExpiry_kept (d : Fin 2) (s : State) : DoorKept d s (settleExpiry d s) := by
  unfold settleExpiry
  dsimp only
  split
  · next h =>
    have moves : travelling (s.door d).state = true := by simp [h.1, travelling]
    split
    · exact (runMotor_kept moves).trans (testStart_kept ..)
    · refine DoorKept.trans ⟨pressureCheck_oneDoor d s, fun h => ?_, fun h => ?_⟩ (testStart_kept ..)
      · exact pressureCheck_ok (h.current.trans moves)
      · exact h.of_slot (.inl (pressureCheck_slot d s))
  · exact .refl d s

theorem travelTimeout_kept (d : Fin 2) (s : State) : DoorKept d s (travelTimeout d s) := by
  unfold travelTimeout
  dsimp only
  split
  · exact endTravel_kept ..
  · exact .refl d s

/-- The AUTO_RECLOSE travel starts from OPEN, so that no homing travel puts it in the slot (R107, R108). -/
theorem holdOpenExpiry_kept (d : Fin 2) (s : State) : DoorKept d s (holdOpenExpiry d s) := by
  unfold holdOpenExpiry
  split
  · next h =>
    have isOpen : (s.door d).state = .isOpen := by
      simp only [Door.holdRuns, Door.mayReclose, Bool.and_eq_true, beq_iff_eq] at h
      exact h.1.2.1.1
    exact startTravel_kept (.of_state (by simp [isOpen]))
  · exact .refl d s

theorem reopenExpiry_kept (d : Fin 2) (s : State) : DoorKept d s (reopenExpiry d s) := by
  unfold reopenExpiry
  dsimp only
  split
  · refine .after (x := { s.door d with reopen := none }) ?_ {}
    split
    · exact escapeActs_kept ..
    · exact .refl d _
  · exact .refl d s

theorem reliefEndsAt_kept {d : Fin 2} {limit : Nat} {o : ReliefOutcome} {s : State}
    (hs : (s.door d).state = .relieving) : DoorKept d s (reliefEndsAt d limit o s) := by
  unfold reliefEndsAt
  exact .after ((endRelief_kept (by simpa using hs)).trans (testStart_kept ..)) { reliefTimer := by simp }

theorem reliefTimeout_kept (d : Fin 2) (s : State) : DoorKept d s (reliefTimeout d s) := by
  unfold reliefTimeout
  dsimp only
  split
  · next h => split <;> exact reliefEndsAt_kept h.1
  · exact .refl d s

theorem blindReliefExpiry_kept (d : Fin 2) (s : State) : DoorKept d s (blindReliefExpiry d s) := by
  unfold blindReliefExpiry
  dsimp only
  split
  · next h => exact reliefEndsAt_kept h.1
  · exact .refl d s

theorem observeRelief_kept (c : Fin 8) (d : Fin 2) (s : State) : DoorKept d s (observeRelief c d s) := by
  unfold observeRelief
  dsimp only
  split
  · next h =>
    refine .after (x := { s.door d with
      lastObserved := (s.channel c).average, observedUsable := (s.channel c).usable })
      ?_ {}
    have ends (o : ReliefOutcome) := (endRelief_kept (o := o) (by simpa using h.1)).trans (testStart_kept d
      (endRelief d o (s.withDoor d { s.door d with
        lastObserved := (s.channel c).average, observedUsable := (s.channel c).usable })))
    split
    · split
      · exact ends _
      · exact .refl d _
    · split
      · exact ends _
      · exact .refl d _
  · exact .refl d s

/-! ### Door policies, MAINT, requests and parameter writes (R109, R112, R115, R116, R139, R154) -/

theorem applyPolicy_kept (p : DoorPolicy) (d : Fin 2) (s : State) : DoorKept d s (applyPolicy p d s) := by
  unfold applyPolicy
  split
  · exact arrive_kept ..
  · refine .after (x := { s.door d with unlockPolicy := true })
      ?_ {}
    dsimp only
    split
    · next h => exact enterDoor_kept rfl (by rw [h]; rfl)
    · exact .refl d _
  · exact .refl d s

theorem removePolicy_kept (p : DoorPolicy) (d : Fin 2) (s : State) : DoorKept d s (removePolicy p d s) := by
  unfold removePolicy
  split
  · exact removeSource_kept ..
  · exact .after (relock_kept ..) {}
  · exact .refl d s

theorem maintAtDoor_kept (d : Fin 2) (s : State) : DoorKept d s (maintAtDoor d s) := by
  unfold maintAtDoor
  extract_lets u
  have cleared : DoorKept d s u := by
    dsimp only [u]
    split
    · exact clearSlot_kept ..
    · exact .refl d s
  refine cleared.trans ?_
  split
  · split
    · exact endTravel_kept ..
    · exact endTravel_kept ..
    · exact .refl d _
  · exact .refl d _

theorem takeTravel_kept {d : Fin 2} {t : Travel} {s : State} (ht : t.reason = .supervisory ∨ t.reason = .service) :
    DoorKept d s (takeTravel d t s) := by
  unfold takeTravel
  split
  · next hs => exact placeInSlot_kept hs ht
  · exact startTravel_kept (.of_asked ht)

theorem doorOff_kept (d : Fin 2) (s : State) : DoorKept d s (doorOff d s) := by
  unfold doorOff
  split
  · exact .refl d s
  · exact ⟨(OneDoor.withDoor ..).trans (enterDoor_oneDoor ..), fun _ => enterDoor_rests rfl (by simp [Door.emptied])
      (by simp [Door.emptied]), fun _ => .of_empty (by simp [Door.emptied])⟩

theorem doorStarts_kept {d : Fin 2} {s : State} (hs : (s.door d).state = .inactive) :
    DoorKept d s (doorStarts d s) := by
  have rests : travelling (s.door d).state = false := by simp [hs, travelling]
  unfold doorStarts
  dsimp only
  split
  · exact .after ((enterDoor_kept rfl (by simpa using rests)).trans (relock_kept ..)) {}
  · exact .after (enterDoor_kept rfl (by simpa using rests)) {}

theorem testHoldOpen_kept (d : Fin 2) (s : State) : DoorKept d s (testHoldOpen d s) := by
  unfold testHoldOpen
  split
  · exact holdOpenExpiry_kept ..
  · exact .refl d s

theorem lockPolicyChanged_kept (d : Fin 2) (s : State) : DoorKept d s (lockPolicyChanged d s) := by
  unfold lockPolicyChanged
  split
  · exact relock_kept ..
  · split
    · next h => exact enterDoor_kept rfl (by simp [h, travelling])
    · exact .refl d s

theorem doorChanged_kept (d : Fin 2) (index : Nat) (s : State) : DoorKept d s (doorChanged d index s) := by
  unfold doorChanged
  split
  · exact testTravel_kept ..
  · exact testTravel_kept ..
  · exact testHoldOpen_kept ..
  · exact .withDoor {}
  · exact lockPolicyChanged_kept ..
  · exact .refl d s

/-! ### Resets and time (R95, R117, R118) -/

theorem closedStateOf_rests (p : DoorSettings) : travelling (closedStateOf p) = false := by
  unfold closedStateOf
  split <;> rfl

theorem Door.poweredOn_ok (p : DoorSettings) (pins : DoorPins) : DoorOk (Door.poweredOn p pins) := by
  refine .rests ?_ rfl rfl
  simp only [Door.poweredOn, Door.started]
  split_ifs
  · rfl
  · exact closedStateOf_rests p
  · rfl

theorem Door.restartState_rests (p : DoorSettings) (x : Door) : travelling (x.restartState p) = false := by
  unfold Door.restartState
  split_ifs
  case pos => rfl
  case pos => rfl
  case pos => rfl
  case pos => exact closedStateOf_rests p
  case pos => rfl
  case neg => rfl

theorem Door.restarted_ok (p : DoorSettings) (pins : DoorPins) (x : Door) : DoorOk (x.restarted p pins) :=
  .rests (Door.restartState_rests p _) rfl rfl

theorem tickDoor_same (cfg : DoorSettings) (x : Door) : SameTravel x (tickDoor cfg x) :=
  { travelTimer := by simp [tickDoor], reliefTimer := by simp [tickDoor] }

end Sys2Proof.Machine
end

section
/-! The demand stage (R34, R35): what it depends on, that a recomputation forms it, and that every change of a channel's
level or contribution has it recomputed. -/

namespace Sys2Proof.Machine

/-! ### What the demand stage depends on (R34) -/

theorem contributing_iff {s : State} {c : Fin 8} :
    contributing s c = true ↔ (s.channel c).state ≠ .inactive ∧ (s.channelCfg c).contributes = true := by
  simp [contributing]

/-- The stage reads the floor, which channels contribute, and the levels of those that do. -/
theorem demandStage_congr {s t : State} (hf : t.demand.floor = s.demand.floor)
    (h : ∀ c, contributing t c = contributing s c ∧
      (contributing s c = true → (t.channel c).level = (s.channel c).level)) :
    demandStage t = demandStage s := by
  unfold demandStage
  rw [hf]
  refine List.foldl_ext _ _ _ fun m c _ => ?_
  obtain ⟨hc, hl⟩ := h c
  rw [hc]
  split
  · next hs => rw [hl hs]
  · rfl

theorem demandStage_of_same {s t : State} (hc : t.channels = s.channels) (hd : t.demand.floor = s.demand.floor)
    (hp : t.store.working.channels = s.store.working.channels) : demandStage t = demandStage s :=
  demandStage_congr hd fun c => by simp [contributing, State.channel, State.channelCfg, hc, hp]

/-! ### The recomputation (R35) -/

theorem recomputeDemand_demand (s : State) : (recomputeDemand s).demand = { s.demand with stage := demandStage s } := by
  unfold recomputeDemand
  dsimp only
  split
  · next h => rw [h]
  · split
    · rw [(FanFrame.takeInAnyOrder refreshAuto refreshAuto_frame allFans _).demand]
      rfl
    · rfl

theorem recomputeDemand_channels (s : State) : (recomputeDemand s).channels = s.channels :=
  (recomputeDemand_frame s).channels

theorem recomputeDemand_store (s : State) : (recomputeDemand s).store = s.store := (recomputeDemand_frame s).store

theorem recomputeDemand_doors (s : State) : (recomputeDemand s).doors = s.doors := by
  rw [(recomputeDemand_frame s).same]
  rfl

theorem recomputeDemand_demandStage (s : State) : demandStage (recomputeDemand s) = demandStage s :=
  demandStage_of_same (recomputeDemand_channels s) (by rw [recomputeDemand_demand]) (by rw [recomputeDemand_store])

/-- A recomputation forms the stage, whatever it was before. -/
theorem recomputeDemand_demandOk (s : State) : DemandOk (recomputeDemand s) := by
  unfold DemandOk
  rw [recomputeDemand_demandStage, recomputeDemand_demand]

/-- A stage that is as R34 forms it is left alone, and with it everything else (R35). -/
theorem recomputeDemand_of_same {s : State} (h : demandStage s = s.demand.stage) : recomputeDemand s = s := by
  simp [recomputeDemand, h]

/-- A new stage is reported before anything else (R35). -/
theorem recomputeDemand_reports {s : State} (h : demandStage s ≠ s.demand.stage) :
    Queued (s.reports.arrive 0 (.demand (demandStage s) s.demand.floor)) (recomputeDemand s).reports := by
  unfold recomputeDemand
  dsimp only
  rw [if_neg h]
  split
  · exact (FanFrame.takeInAnyOrder refreshAuto refreshAuto_frame allFans _).queued
  · exact .refl _

/-- Outside AUTO the stage does not reach the fans (R38, R43). -/
theorem recomputeDemand_of_ne_auto {s : State} (h : s.modes.mode ≠ .auto) :
    (recomputeDemand s).fans = s.fans ∧ (recomputeDemand s).arbiter = s.arbiter := by
  unfold recomputeDemand
  dsimp only
  split
  · exact ⟨rfl, rfl⟩
  · simp [h]

/-! ### A changed level (R28 to R31) -/

/-- A level that has not changed does nothing. -/
theorem levelChanged_of_eq {before : Nat} {c : Fin 8} {s : State} (h : (s.channel c).level = before) :
    levelChanged before c s = s := by simp [levelChanged, h]

/-- A changed level is reported, and nothing more where the channel does not contribute. -/
theorem levelChanged_of_ne {before : Nat} {c : Fin 8} {s : State} (h : (s.channel c).level ≠ before)
    (hc : contributing s c = false) :
    levelChanged before c s = report (channelUnit c) (.level (s.channel c).level (s.channel c).average) s := by
  have : contributing (report (channelUnit c) (.level (s.channel c).level (s.channel c).average) s) c = false := hc
  simp [levelChanged, h, this]

/-- A changed level of a contributing channel is reported, and the stage recomputed. -/
theorem levelChanged_of_contributing {before : Nat} {c : Fin 8} {s : State} (h : (s.channel c).level ≠ before)
    (hc : contributing s c = true) :
    levelChanged before c s =
      recomputeDemand (report (channelUnit c) (.level (s.channel c).level (s.channel c).average) s) := by
  have : contributing (report (channelUnit c) (.level (s.channel c).level (s.channel c).average) s) c = true := hc
  simp [levelChanged, h, this]

/-- The three cases of a level written: unchanged, changed at a channel that does not contribute, and at one that does. -/
theorem levelChanged_cases (before : Nat) (c : Fin 8) (s : State) :
    ((s.channel c).level = before ∧ levelChanged before c s = s) ∨
    ((s.channel c).level ≠ before ∧ contributing s c = false ∧
      levelChanged before c s = report (channelUnit c) (.level (s.channel c).level (s.channel c).average) s) ∨
    ((s.channel c).level ≠ before ∧ contributing s c = true ∧
      levelChanged before c s =
        recomputeDemand (report (channelUnit c) (.level (s.channel c).level (s.channel c).average) s)) := by
  by_cases h : (s.channel c).level = before
  · exact .inl ⟨h, levelChanged_of_eq h⟩
  · cases hc : contributing s c
    · exact .inr (.inl ⟨h, rfl, levelChanged_of_ne h hc⟩)
    · exact .inr (.inr ⟨h, rfl, levelChanged_of_contributing h hc⟩)

theorem levelChanged_channels (before : Nat) (c : Fin 8) (s : State) : (levelChanged before c s).channels = s.channels := by
  obtain ⟨_, h⟩ | ⟨_, _, h⟩ | ⟨_, _, h⟩ := levelChanged_cases before c s <;> rw [h]
  · rfl
  · exact recomputeDemand_channels _

theorem levelChanged_doors (before : Nat) (c : Fin 8) (s : State) : (levelChanged before c s).doors = s.doors := by
  obtain ⟨_, h⟩ | ⟨_, _, h⟩ | ⟨_, _, h⟩ := levelChanged_cases before c s <;> rw [h]
  · rfl
  · exact recomputeDemand_doors _

/-- A channel replaced by one as active as it was leaves every contribution as it was. -/
theorem contributing_withChannel {s : State} {c : Fin 8} {x : Channel}
    (ha : x.state = .inactive ↔ (s.channel c).state = .inactive) (e : Fin 8) :
    contributing (s.withChannel c x) e = contributing s e := by
  rw [Bool.eq_iff_iff, contributing_iff, contributing_iff]
  by_cases h : e = c
  · subst h
    simp [ha]
  · simp [State.withChannel_channel_of_ne _ x h]

/-- A channel replaced at its level leaves the stage. -/
theorem demandStage_withChannel {s : State} {c : Fin 8} {x : Channel}
    (ha : x.state = .inactive ↔ (s.channel c).state = .inactive)
    (hl : contributing s c = true → x.level = (s.channel c).level) :
    demandStage (s.withChannel c x) = demandStage s := by
  refine demandStage_congr rfl fun e => ⟨contributing_withChannel ha e, fun he => ?_⟩
  by_cases h : e = c
  · subst h
    simpa using hl he
  · rw [State.withChannel_channel_of_ne _ x h]

theorem levelChanged_demandOk {s : State} {c : Fin 8} {x : Channel}
    (ha : x.state = .inactive ↔ (s.channel c).state = .inactive) (h : DemandOk s) :
    DemandOk (levelChanged (s.channel c).level c (s.withChannel c x)) := by
  have kept (hl : contributing s c = true → x.level = (s.channel c).level) : DemandOk (s.withChannel c x) :=
    h.trans (demandStage_withChannel ha hl).symm
  obtain ⟨hl, e⟩ | ⟨_, hc, e⟩ | ⟨_, _, e⟩ := levelChanged_cases (s.channel c).level c (s.withChannel c x) <;> rw [e]
  · exact kept fun _ => by simpa using hl
  · rw [contributing_withChannel ha] at hc
    have := kept fun k => by simp [hc] at k
    exact this
  · exact recomputeDemand_demandOk _

/-! ### What `LevelHanded` says of a changed level -/

/-- The level of channel `c` written in `u` is handed on as R28 and R35 say, behind the reports that `u` holds. -/
theorem levelHanded_levelChanged {s u : State} {c : Fin 8} (hd : u.demand = s.demand) (hp : u.store = s.store)
    (ha : (u.channel c).state ≠ .inactive) : LevelHanded c u.reports s (levelChanged (s.channel c).level c u) := by
  have hc : contributing u c = (s.channelCfg c).contributes := by
    rw [Bool.eq_iff_iff, contributing_iff]
    simp [ha, State.channelCfg, hp]
  have hx : (levelChanged (s.channel c).level c u).channel c = u.channel c := by
    simp only [State.channel, levelChanged_channels]
  obtain ⟨hl, e⟩ | ⟨hl, hn, e⟩ | ⟨hl, hn, e⟩ := levelChanged_cases (s.channel c).level c u
  · rw [e]
    exact ⟨fun _ => hd, fun h => absurd hl h, fun h => absurd hl h⟩
  · rw [hc] at hn
    refine ⟨fun _ => by rw [e]; exact hd, fun _ => ?_, fun _ h => by simp [hn] at h⟩
    rw [hx, e]
    exact .refl _
  · rw [hc] at hn
    refine ⟨fun h => ?_, fun _ => ?_, fun _ _ => ⟨?_, fun hs => ?_⟩⟩
    · rw [hx] at h
      exact absurd h (by simp [hl, hn])
    · rw [hx, e]
      exact (recomputeDemand_frame _).queued
    · rw [e, recomputeDemand_demand, recomputeDemand_demandStage]
      simp [hd]
    · rw [hx]
      rw [e, recomputeDemand_demandStage] at hs ⊢
      have := recomputeDemand_reports (s := report (channelUnit c) (.level (u.channel c).level (u.channel c).average) u)
        (by simpa [hd] using hs)
      simpa [hd] using this

/-- What follows at the doors leaves the level handed on. -/
theorem LevelHanded.doors {c : Fin 8} {q : ReportQueue} {s t u : State} (h : LevelHanded c q s t) (k : DoorFrame t u) :
    LevelHanded c q s u := by
  have hx : u.channel c = t.channel c := by simp only [State.channel, k.channels]
  have hs : demandStage u = demandStage t := demandStage_of_same k.channels (by rw [k.demand]) (by rw [k.store])
  constructor
  · rw [hx, k.demand]
    exact h.kept
  · rw [hx]
    exact fun hl => (h.level hl).trans k.queued
  · rw [hx, hs, k.demand]
    exact fun hl hc => ⟨(h.stage hl hc).1, fun hn => ((h.stage hl hc).2 hn).trans k.queued⟩

end Sys2Proof.Machine
end

section
/-! The alarm level under a valid sample (R24 to R28) and DEMAND_FLOOR (R37). -/

namespace Sys2Proof.Machine

/-! ### What a sample leaves to the evaluation (R2, R20) -/

/-- Stages before the evaluation: the level and both persistence counts stay, and an active channel stays active. -/
structure Sampled (x y : Channel) : Prop where
  level : y.level = x.level := by rfl
  upCount : y.upCount = x.upCount := by rfl
  downCount : y.downCount = x.downCount := by rfl
  active : x.state ≠ .inactive → y.state ≠ .inactive

theorem Sampled.trans {x y z : Channel} (a : Sampled x y) (b : Sampled y z) : Sampled x z :=
  ⟨b.level.trans a.level, b.upCount.trans a.upCount, b.downCount.trans a.downCount, b.active ∘ a.active⟩

theorem Channel.emptied_sampled (x : Channel) : Sampled x x.emptied where
  active h := by cases hx : x.state <;> simp [Channel.emptied, hx] at h ⊢

theorem Channel.emptied_fault (x : Channel) : x.emptied.state = .fault ↔ x.state = .fault := by
  cases hx : x.state <;> simp [Channel.emptied, hx]

theorem Channel.settled_active (x : Channel) : x.settled.state ≠ .inactive := by
  unfold Channel.settled
  dsimp only
  split <;> simp

theorem Channel.validSample_sampled (x : Channel) (r : Nat) : Sampled x (x.validSample r) := by
  have emptied : Sampled x (if x.state = .fault then x.emptied else x) := by
    split
    · exact x.emptied_sampled
    · exact { active := id }
  exact emptied.trans { active := fun _ => Channel.settled_active _ }

theorem Channel.faultedSample_sampled (x : Channel) (n : Nat) (cause : LoopCause) :
    Sampled x (x.faultedSample n cause).1 := by
  unfold Channel.faultedSample
  dsimp only
  split
  · exact { active := id }
  · split
    · exact { active := fun _ => by simp }
    · exact { active := id }

/-- The channel on which the sample acts: its configuration in force, and the raw code taken (R3, R17). -/
def Channel.prepared (p : ChannelSettings) (r : Nat) (x : Channel) : Channel :=
  { (if x.inForce = configOf p then x else x.reconfigured p) with rawCode := r }

theorem Channel.prepared_sampled (p : ChannelSettings) (r : Nat) (x : Channel) : Sampled x (x.prepared p r) := by
  have applied : Sampled x (if x.inForce = configOf p then x else x.reconfigured p) := by
    split
    · exact { active := id }
    · exact Sampled.trans (y := { x with inForce := configOf p }) { active := id } (Channel.emptied_sampled _)
  exact applied.trans { active := id }

theorem Channel.prepared_fault (p : ChannelSettings) (r : Nat) (x : Channel) :
    (x.prepared p r).state = .fault ↔ x.state = .fault := by
  simp only [Channel.prepared]
  split
  · rfl
  · exact Channel.emptied_fault _

theorem Channel.sample_of_fault {p : ChannelSettings} {current : Nat} {cause : LoopCause}
    (h : loopFault (rawCodeOf current) = some cause) (x : Channel) :
    x.sample p current = (x.prepared p (rawCodeOf current)).faultedSample p.faultPersistence cause := by
  simp only [Channel.sample, Channel.prepared, h]

theorem Channel.sample_of_valid {p : ChannelSettings} {current : Nat} (h : loopFault (rawCodeOf current) = none)
    (x : Channel) : x.sample p current = ((x.prepared p (rawCodeOf current)).validSample (rawCodeOf current),
      .newAverage ((x.prepared p (rawCodeOf current)).state == .fault)) := by
  simp only [Channel.sample, Channel.prepared, h]

theorem Channel.sample_sampled (p : ChannelSettings) (current : Nat) (x : Channel) :
    Sampled x (x.sample p current).1 := by
  have prepared := x.prepared_sampled p (rawCodeOf current)
  cases h : loopFault (rawCodeOf current) with
  | some cause =>
    rw [Channel.sample_of_fault h]
    exact prepared.trans (Channel.faultedSample_sampled ..)
  | none =>
    rw [Channel.sample_of_valid h]
    exact prepared.trans (Channel.validSample_sampled ..)

/-- A valid sample hands the demand unit a new average (R4, R8, R14, R20). -/
theorem Channel.sample_average {p : ChannelSettings} {current : Nat} {x : Channel} (lo : 576 ≤ rawCodeOf current)
    (hi : rawCodeOf current ≤ 3360) :
    (x.sample p current).2 = .newAverage (x.state == .fault) ∧ ∃ a, (x.sample p current).1.average = some a := by
  have valid : loopFault (rawCodeOf current) = none := by
    simp [loopFault, Nat.not_lt.mpr lo, Nat.not_lt.mpr hi]
  have fault : ((x.prepared p (rawCodeOf current)).state == .fault) = (x.state == .fault) := by
    rw [Bool.eq_iff_iff, beq_iff_eq, beq_iff_eq, Channel.prepared_fault]
  rw [Channel.sample_of_valid valid, fault]
  exact ⟨rfl, _, rfl⟩

/-! ### The evaluation (R25 to R27) -/

theorem threshold_eq (p : ChannelSettings) (n : Nat) :
    threshold p n = if n = 1 then p.t1 else if n = 2 then p.t2 else p.t3 := by
  unfold threshold
  split <;> simp_all

@[simp] theorem Channel.evaluated_average (p : ChannelSettings) (a : Int) (x : Channel) :
    (x.evaluated p a).average = x.average := by
  unfold Channel.evaluated
  dsimp only
  split_ifs <;> rfl

@[simp] theorem Channel.evaluated_state (p : ChannelSettings) (a : Int) (x : Channel) :
    (x.evaluated p a).state = x.state := by
  unfold Channel.evaluated
  dsimp only
  split_ifs <;> rfl

/-- The rising persistence is reached: one level up, whatever the falling test says. -/
theorem Channel.evaluated_rises {p : ChannelSettings} {a : Int} {x : Channel} (h : p.upPersistence ≤ risingCount p x a) :
    x.evaluated p a = { x with level := x.level + 1, upCount := 0, downCount := 0 } := by
  simp [Channel.evaluated, h]

theorem Channel.evaluated_falls {p : ChannelSettings} {a : Int} {x : Channel} (hu : risingCount p x a < p.upPersistence)
    (h : p.downPersistence ≤ fallingCount p x a) :
    x.evaluated p a = { x with level := x.level - 1, upCount := 0, downCount := 0 } := by
  simp [Channel.evaluated, h, Nat.not_le.mpr hu]

theorem Channel.evaluated_counts {p : ChannelSettings} {a : Int} {x : Channel} (hu : risingCount p x a < p.upPersistence)
    (hd : fallingCount p x a < p.downPersistence) :
    x.evaluated p a = { x with upCount := risingCount p x a, downCount := fallingCount p x a } := by
  simp [Channel.evaluated, Nat.not_le.mpr hu, Nat.not_le.mpr hd]

theorem evaluateLevel_of_average {c : Fin 8} {s : State} {a : Int} (h : (s.channel c).average = some a) :
    evaluateLevel c s =
      levelChanged (s.channel c).level c (s.withChannel c ((s.channel c).evaluated (s.channelCfg c) a)) := by
  simp [evaluateLevel, h]

/-! ### The sample instant of an active channel (R2, R20, R121) -/

theorem takeSample_of_active {c : Fin 8} {current : Nat} {s : State} (h : (s.channel c).state ≠ .inactive) :
    takeSample c current s = handOutcome c ((s.channel c).sample (s.channelCfg c) current).2
      (s.withChannel c ((s.channel c).sample (s.channelCfg c) current).1) := by
  simp [takeSample, h]

/-- The doors that observe the channel act behind the sample. -/
theorem sampleInstant_doors (c : Fin 8) (current : Nat) (s : State) :
    DoorFrame (takeSample c current s) (sampleInstant c current s) :=
  takeInAnyOrder_rel DoorFrame .refl (fun _ _ _ => .trans) (fun s => (FanFrame.nextChoice s).doorFrame) _
    (fun d s => (observeRelief_oneDoor c d s).frame) _ _

/-- The state in which the level is evaluated: the sampled channel written, a recovery reported (R9, R20). -/
def sampledState (c : Fin 8) (y : Channel) (s : State) : State :=
  if (s.channel c).state == .fault then report (channelUnit c) .channelRecovered (s.withChannel c y)
  else s.withChannel c y

theorem sampledState_spec (c : Fin 8) (y : Channel) (s : State) :
    (sampledState c y s).channel c = y ∧ (sampledState c y s).demand = s.demand ∧ (sampledState c y s).store = s.store ∧
      (sampledState c y s).reports =
        if (s.channel c).state = .fault then s.reports.arrive (channelUnit c) .channelRecovered else s.reports := by
  unfold sampledState
  cases hf : (s.channel c).state == .fault <;> simp_all

/-- A valid sample of an active channel: its level is evaluated against the new average, and handed on. -/
theorem takeSample_of_valid {c : Fin 8} {current : Nat} {s : State} (hx : (s.channel c).state ≠ .inactive)
    (lo : 576 ≤ rawCodeOf current) (hi : rawCodeOf current ≤ 3360) :
    ∃ y a, Sampled (s.channel c) y ∧ y.average = some a ∧ takeSample c current s =
      levelChanged (s.channel c).level c ((sampledState c y s).withChannel c (y.evaluated (s.channelCfg c) a)) := by
  obtain ⟨ho, a, ha⟩ := Channel.sample_average (p := s.channelCfg c) (x := s.channel c) lo hi
  have sampled := (s.channel c).sample_sampled (s.channelCfg c) current
  have taken := takeSample_of_active (current := current) hx
  rw [ho] at taken
  generalize ((s.channel c).sample (s.channelCfg c) current).1 = y at ha sampled taken
  obtain ⟨hy, _, hp, _⟩ := sampledState_spec c y s
  have evaluated := evaluateLevel_of_average (c := c) (s := sampledState c y s) (a := a) (by rw [hy, ha])
  have cfg : (sampledState c y s).channelCfg c = s.channelCfg c := by simp [State.channelCfg, hp]
  rw [hy, cfg, sampled.level] at evaluated
  exact ⟨y, a, sampled, ha, taken.trans evaluated⟩

/-- Settles O10: the sample leaves the level to the evaluation of its new average, and the doors leave what that brings. -/
theorem levelFollowsTheAverage : Obligations.LevelFollowsTheAverage := by
  unfold Obligations.LevelFollowsTheAverage
  intro s c current x p r bound hx lo hi
  obtain ⟨y, a, sampled, ha, taken⟩ := takeSample_of_valid hx lo hi
  obtain ⟨_, hd, hp, hq⟩ := sampledState_spec c y s
  have doors := sampleInstant_doors c current s
  have handed := levelHanded_levelChanged (s := s) (c := c)
    (u := (sampledState c y s).withChannel c (y.evaluated p a)) hd hp (by simpa using sampled.active hx)
  rw [← taken, State.withChannel_reports, hq] at handed
  have ht : (sampleInstant c current s).channel c = y.evaluated p a := by
    simp only [State.channel, doors.channels, taken, levelChanged_channels]
    exact State.withChannel_channel_self _ c _
  have rising : risingCount p y a = if x.level < 3 ∧ bound (x.level + 1) ≤ a then x.upCount + 1 else 0 := by
    rw [risingCount, threshold_eq, sampled.level, sampled.upCount]
  have falling : fallingCount p y a = if 0 < x.level ∧ a < bound x.level - p.hysteresis then x.downCount + 1 else 0 := by
    rw [fallingCount, threshold_eq, sampled.level, sampled.downCount]
  refine ⟨sampleInstant c current s, a, rfl, by simp [ht, ha], ?_⟩
  dsimp only
  rw [ht, ← rising, ← falling, ← sampled.level]
  refine ⟨fun hu => ?_, fun hu hf => ?_, fun hu hf => ?_, handed.doors doors⟩
  · simp [Channel.evaluated_rises hu]
  · simp [Channel.evaluated_falls hu hf]
  · simp [Channel.evaluated_counts hu hf]

/-! ### DEMAND_FLOOR (R34, R37) -/

/-- A frame finds a quiet controller in the state of its dispatch (R145, R157). -/
theorem linkAlive_of_quiet {s : State} (h : Quiet s) : linkAlive (hunting (replyGone s)) = dispatching s := by
  obtain ⟨hreply, hreset, hlost, hsend⟩ := h
  have line : { s.line with reply := none, transmitting := false } = s.line := by rw [← hreply, ← hsend]
  have gone : replyGone s = s := by
    rw [replyGone, if_neg (by simp [hreset]), line]
    rfl
  have alive : (hunting s).modes.lineLost = false := hlost
  rw [gone, linkAlive, alive]
  rfl

/-- A request addressed to a quiet controller is answered there (R158). -/
theorem request_of_ready {kind dest : Byte} {payload : List Byte} {h : Handler} {s : State} (hr : Ready s dest) :
    request kind dest payload h s = answerRequest kind dest (h payload) (dispatching s) := by
  obtain ⟨hq, hb, hs⟩ := hr
  have station : (hunting (replyGone s)).line.station = some dest.toNat := by
    simpa [hunting, replyGone, hq.2.1] using hs
  simp [request, frameArrives, takeFrame, hq.2.2.2, hq.2.1, hb, station, linkAlive_of_quiet hq]

/-- The stage as R34 words it. -/
theorem demandStage_eq (s : State) : demandStage s = allChannels.foldl (fun m c =>
    if (s.channel c).state ≠ .inactive ∧ (s.channelCfg c).contributes = true then max m (s.channel c).level else m)
    s.demand.floor := by
  simp only [demandStage, contributing_iff]

/-- Settles O11: the floor is written, and the recomputation says the rest. -/
theorem demandFloorSetsTheStage : Obligations.DemandFloorSetsTheStage := by
  unfold Obligations.DemandFloorSetsTheStage
  intro s dest n hr
  let u := (dispatching s).withDemand { (dispatching s).demand with floor := min n.toNat 3 }
  have hd : (recomputeDemand u).demand = { stage := demandStage u, floor := min n.toNat 3 } := recomputeDemand_demand u
  refine ⟨recomputeDemand u, ?_, by rw [hd], ?_, recomputeDemand_frame u, ?_, ?_, fun h => recomputeDemand_of_ne_auto h⟩
  · exact congrArg Host.Outcome.next (request_of_ready hr)
  · rw [hd]
    exact demandStage_eq u
  · rw [hd]
    intro h
    rw [recomputeDemand_of_same h]
    exact ⟨rfl, rfl, rfl⟩
  · rw [hd]
    exact fun h => recomputeDemand_reports h

end Sys2Proof.Machine
end

section
/-! The demand stage formed, the doors consistent and the slots as asked for: one lemma for each operation on more than one
block, up to the frames of the niche line. -/

namespace Sys2Proof.Machine

/-! ### The three invariants along one event -/

/-- The event keeps each of the three invariants of O59, each by itself. -/
structure Kept (s t : State) : Prop where
  demand : DemandOk s → DemandOk t
  doors : DoorsOk s → DoorsOk t
  slots : SlotsAsked s → SlotsAsked t

theorem Kept.refl (s : State) : Kept s s := ⟨id, id, id⟩

theorem Kept.trans {s t u : State} (a : Kept s t) (b : Kept t u) : Kept s u :=
  ⟨b.demand ∘ a.demand, b.doors ∘ a.doors, b.slots ∘ a.slots⟩

/-- An event on the doors that keeps each of them, and the demand stage. -/
theorem Kept.of_each {s t : State} (hd : DemandOk s → DemandOk t) (h : ∀ d, SameTravel (s.door d) (t.door d)) :
    Kept s t :=
  ⟨hd, fun k d => (k d).of_same (h d), fun k d => (k d).of_slot (h d).slot⟩

theorem Kept.of_doors {s t : State} (hd : DemandOk s → DemandOk t) (hx : t.doors = s.doors) : Kept s t :=
  .of_each hd fun d => by
    have : t.door d = s.door d := by simp only [State.door, hx]
    exact this ▸ {}

theorem demandOk_of_same {s t : State} (hc : t.channels = s.channels) (hd : t.demand = s.demand)
    (hp : t.store.working.channels = s.store.working.channels) (h : DemandOk s) : DemandOk t := by
  unfold DemandOk
  rw [demandStage_of_same hc (by rw [hd]) hp, hd]
  exact h

/-- An event that touches neither the channels nor the demand unit nor the doors nor the channels' settings. -/
theorem Kept.of_same {s t : State} (hc : t.channels = s.channels := by rfl) (hd : t.demand = s.demand := by rfl)
    (hp : t.store.working.channels = s.store.working.channels := by rfl) (hx : t.doors = s.doors := by rfl) : Kept s t :=
  .of_doors (demandOk_of_same hc hd hp) hx

theorem Kept.of_fan {s t : State} (h : FanFrame s t) : Kept s t :=
  .of_same h.channels h.demand (by rw [h.store]) (by rw [h.same])

theorem Kept.of_door {d : Fin 2} {s t : State} (h : DoorKept d s t) : Kept s t where
  demand := demandOk_of_same h.one.frame.channels h.one.frame.demand (by rw [h.one.frame.store])
  doors k e := if he : e = d then he ▸ h.ok (k d) else h.one.others e he ▸ k e
  slots k e := if he : e = d then he ▸ h.asked (k d) else h.one.others e he ▸ k e

theorem Kept.takeInAnyOrder {α : Type} {act : α → State → State} (each : ∀ x s, Kept s (act x s)) (l : List α)
    (s : State) : Kept s (takeInAnyOrder l act s) :=
  takeInAnyOrder_rel Kept .refl (fun _ _ _ => .trans) (fun _ => .of_same) act each l s

/-- The event of one member at each fan, in any order. -/
theorem Kept.fans {act : Fin 4 → State → State} (each : ∀ f s, FanFrame s (act f s)) (l : List (Fin 4)) (s : State) :
    Kept s (Machine.takeInAnyOrder l act s) := .of_fan (.takeInAnyOrder act each l s)

theorem Kept.report (u : Nat) (r : ReportData) (s : State) : Kept s (report u r s) := .of_same

/-! ### The demand unit (R20, R27 to R31) -/

/-- A recomputation forms the stage, whatever the event before it has changed at the channels and their settings. -/
theorem recomputeDemand_kept {s u : State} (hx : u.doors = s.doors) : Kept s (recomputeDemand u) :=
  .of_doors (fun _ => recomputeDemand_demandOk u) ((recomputeDemand_doors u).trans hx)

/-- A channel written back, its level handed on. -/
theorem levelChanged_kept {s : State} {c : Fin 8} {x : Channel}
    (ha : x.state = .inactive ↔ (s.channel c).state = .inactive) :
    Kept s (levelChanged (s.channel c).level c (s.withChannel c x)) :=
  .of_doors (levelChanged_demandOk ha) (levelChanged_doors ..)

/-- A channel written back at its level and as active as it was. -/
theorem Kept.withChannel {s : State} {c : Fin 8} {x : Channel}
    (ha : x.state = .inactive ↔ (s.channel c).state = .inactive) (hl : x.level = (s.channel c).level) :
    Kept s (s.withChannel c x) :=
  .of_doors (fun h => h.trans (demandStage_withChannel ha fun _ => hl).symm) rfl

theorem evaluateLevel_kept (c : Fin 8) (s : State) : Kept s (evaluateLevel c s) := by
  unfold evaluateLevel
  dsimp only
  split
  · exact levelChanged_kept (by simp)
  · exact .refl s

theorem setLevel_kept (c : Fin 8) (n : Nat) (s : State) : Kept s (setLevel c n s) := levelChanged_kept Iff.rfl

theorem handOutcome_kept (c : Fin 8) (o : SampleOutcome) (s : State) : Kept s (handOutcome c o s) := by
  unfold handOutcome
  split
  · refine Kept.trans ?_ (evaluateLevel_kept ..)
    split
    · exact .report ..
    · exact .refl s
  · exact .refl s
  · exact (Kept.report ..).trans (setLevel_kept ..)
  · exact .refl s

theorem takeSample_kept (c : Fin 8) (current : Nat) (s : State) : Kept s (takeSample c current s) := by
  by_cases h : (s.channel c).state = .inactive
  · simp only [takeSample, h, if_true]
    exact .refl s
  · have sampled := (s.channel c).sample_sampled (s.channelCfg c) current
    rw [takeSample_of_active h]
    exact (Kept.withChannel (iff_of_false (sampled.active h) h) sampled.level).trans (handOutcome_kept ..)

theorem sampleInstant_kept (c : Fin 8) (current : Nat) (s : State) : Kept s (sampleInstant c current s) :=
  (takeSample_kept c current s).trans (.takeInAnyOrder (fun d s => .of_door (observeRelief_kept c d s)) _ _)

/-! ### Modes and engagements (chapter 8) -/

theorem leaveManual_kept (cause : ModeCause) (s : State) : Kept s (leaveManual cause s) :=
  (Kept.trans .of_same (.of_fan (discardSetpoints_frame _))).trans (.fans refreshAuto_frame _ _)

theorem enterManual_kept (s : State) : Kept s (enterManual s) :=
  (Kept.trans .of_same (.of_fan (discardSetpoints_frame _))).trans (.report ..)

theorem changeMode_kept (m : Mode) (s : State) : Kept s (changeMode m s) := by
  unfold changeMode
  split
  · exact .refl s
  · split
    · exact leaveManual_kept ..
    · exact enterManual_kept s
    · exact .refl s

theorem startDelayExpiry_kept (f : Fin 4) (s : State) : Kept s (startDelayExpiry f s) := by
  unfold startDelayExpiry
  split
  · exact Kept.trans .of_same (.of_fan (refreshIncident_frame ..))
  · exact .refl s

theorem changePolicies_kept (old new : Option ScenarioRecord) (s : State) : Kept s (changePolicies old new s) :=
  (Kept.takeInAnyOrder (fun d s => .of_door (removePolicy_kept _ d s)) _ s).trans
    (.takeInAnyOrder (fun d s => .of_door (applyPolicy_kept _ d s)) _ _)

theorem engageRecord_kept (n : Nat) (cause : ModeCause) (tag : Nat) (s : State) : Kept s (engageRecord n cause tag s) :=
  .of_same

theorem engageFirst_kept (n : Nat) (cause : ModeCause) (tag : Nat) (s : State) : Kept s (engageFirst n cause tag s) :=
  have engaged : Kept s (engageRecord n cause tag (discardSetpoints (freezeTargets s))) :=
    (Kept.trans .of_same (.of_fan (discardSetpoints_frame _))).trans (engageRecord_kept ..)
  (((engaged.trans (.fans refreshIncident_frame _ _)).trans (.fans clearIfEntered_frame _ _)).trans
    (.fans joinInIncident_frame _ _)).trans (changePolicies_kept ..)

theorem engageAgain_kept (n : Nat) (cause : ModeCause) (tag : Nat) (s : State) : Kept s (engageAgain n cause tag s) :=
  (((engageRecord_kept n cause tag s).trans (changePolicies_kept ..)).trans (.fans refreshIncident_frame _ _)).trans
    (.fans clearIfEntered_frame _ _)

theorem leaveIncident_kept (cause : ModeCause) (tag : Nat) (s : State) : Kept s (leaveIncident cause tag s) :=
  ((Kept.trans .of_same (changePolicies_kept ..)).trans (.fans refreshAuto_frame _ _)).trans
    (.of_fan ((FanFrame.takeEach _ waitForCredit_frame _ _).trans (.takeEach _ restartVerify_frame _ _)))

theorem engageScenario_kept (n : Nat) (cause : ModeCause) (tag : Nat) (s : State) :
    Kept s (engageScenario n cause tag s) := by
  unfold engageScenario
  split
  · split
    · exact leaveIncident_kept ..
    · exact .refl s
  · split
    · exact engageAgain_kept ..
    · exact engageFirst_kept ..

theorem linkExpires_kept (s : State) : Kept s (linkExpires s) := by
  unfold linkExpires
  dsimp only
  split
  · exact Kept.trans .of_same (leaveManual_kept ..)
  · exact .of_same

theorem linkTimeout_kept (s : State) : Kept s (linkTimeout s) := by
  unfold linkTimeout
  split
  · exact linkExpires_kept s
  · exact .refl s

theorem linkAlive_kept (s : State) : Kept s (linkAlive s) := by
  unfold linkAlive
  split <;> exact .of_same

/-! ### Hardwired lines (chapter 9) -/

theorem stopAsserted_kept (s : State) : Kept s (stopAsserted s) := by
  unfold stopAsserted
  split
  · exact .refl s
  · exact (Kept.trans .of_same (.of_fan (.takeEach _ leaveArbiter_frame _ _))).trans (.fans stopFan_frame _ _)

theorem stopReleased_kept (s : State) : Kept s (stopReleased s) := by
  unfold stopReleased
  split
  · dsimp only
    split
    · exact Kept.trans .of_same (.fans (resumeFan_frame _) _ _)
    · exact Kept.trans .of_same (.of_fan (.takeEach _ (fun _ _ => .withFan ..) _ _))
  · exact .of_same

theorem escapeAsserted_kept (s : State) : Kept s (escapeAsserted s) := by
  unfold escapeAsserted
  split
  · exact .refl s
  · exact Kept.trans .of_same (.takeInAnyOrder (fun d s => .of_door (arrive_kept d _ s)) _ _)

theorem escapeReleased_kept (s : State) : Kept s (escapeReleased s) := by
  unfold escapeReleased
  split
  · exact Kept.trans .of_same (.takeInAnyOrder (fun d s => .of_door (removeSource_kept d _ s)) _ _)
  · exact .of_same

theorem maintAsserted_kept (s : State) : Kept s (maintAsserted s) := by
  unfold maintAsserted
  split
  · exact .refl s
  · exact .of_same

theorem maintLeavesManual_kept (s : State) : Kept s (maintLeavesManual s) := by
  unfold maintLeavesManual
  split
  · exact leaveManual_kept ..
  · exact .refl s

theorem maintReleased_kept (s : State) : Kept s (maintReleased s) := by
  unfold maintReleased
  split
  · refine Kept.trans .of_same (.takeInAnyOrder (fun b s => ?_) _ _)
    cases b with
    | none => exact maintLeavesManual_kept s
    | some d => exact .of_door (maintAtDoor_kept d s)
  · exact .of_same

/-! ### The settings store and the resets (R175, R178, R179) -/

theorem finishWrite_kept (agrees : Bool) (s : State) : Kept s (finishWrite agrees s) := by
  unfold finishWrite Store.written
  split
  · split <;> exact .of_same
  · exact .refl s

theorem startTarget_frame (f : Fin 4) (s : State) : FanFrame s (startTarget f s) :=
  (FanFrame.withFan _ _ s).trans (.withFan ..)

theorem startedChannels_level (p : Settings) (c : Fin 8) : (startedChannels p)[c].level = 0 := by
  match c with
  | 0 | 1 | 2 | 3 | 4 | 5 | 6 | 7 => rfl

/-- With the floor and every level at 0 the stage is 0 (R34). -/
theorem demandStage_of_zero {s : State} (hf : s.demand.floor = 0) (hl : ∀ c, (s.channel c).level = 0) :
    demandStage s = 0 := by
  simp [demandStage, allChannels, hf, hl]

/-- Both resets end in a formed stage, and in doors that are consistent where the reset has started each of them so. -/
theorem startBlocks_kept {s u : State} (hd : ∀ d, DoorOk (u.door d)) (hq : ∀ d, (u.door d).slot = none) :
    Kept s (startBlocks u) := by
  have frame (v : State) : FanFrame v
      ((takeEach allFans startTarget v).withArbiter { (takeEach allFans startTarget v).arbiter with
        urgency := urgencyHolds (takeEach allFans startTarget v) }) :=
    (FanFrame.takeEach _ startTarget_frame allFans v).trans (.withArbiter ..)
  have started := Kept.of_fan (frame { u with
    channels := startedChannels u.settings, demand := { stage := 0, floor := 0 }, arbiter := Arbiter.started
    modes := ModeControl.started })
  refine ⟨fun _ => started.demand ?_, fun _ => started.doors hd, fun _ => started.slots fun d => .of_empty (hq d)⟩
  exact Eq.symm (demandStage_of_zero rfl (startedChannels_level u.settings))

theorem powerOnReset_kept (straps : Straps) (pins : Pins) (s : State) : Kept s (powerOnReset straps pins s) := by
  unfold powerOnReset
  refine startBlocks_kept (fun d => ?_) (fun d => ?_)
  · match d with
    | 0 | 1 => exact Door.poweredOn_ok ..
  · match d with
    | 0 | 1 => rfl

theorem warmReset_kept (pins : Pins) (s : State) : Kept s (warmReset pins s) := by
  unfold warmReset
  refine startBlocks_kept (fun d => ?_) (fun d => ?_)
  · match d with
    | 0 | 1 => exact Door.restarted_ok ..
  · match d with
    | 0 | 1 => rfl

theorem resetAfterReply_kept (s : State) : Kept s (resetAfterReply s) := Kept.trans .of_same (warmReset_kept ..)

theorem warmResetDue_kept (pins : Pins) (s : State) : Kept s (warmResetDue pins s) := by
  unfold warmResetDue
  split
  · exact warmReset_kept ..
  · exact .refl s

/-! ### The niche line (R157 to R163, R166) -/

theorem replyGone_kept (s : State) : Kept s (replyGone s) := by
  unfold replyGone
  split
  · exact resetAfterReply_kept s
  · exact .of_same

theorem replySent_kept (phase : SendPhase) (s : State) : Kept s (replySent phase s) := by
  unfold replySent
  split
  · exact .of_same
  · exact Kept.trans .of_same (replyGone_kept _)
  · exact .refl s

theorem hunting_kept (s : State) : Kept s (hunting s) := .of_same

theorem receiving_kept (bytes : List Byte) (s : State) : Kept s (receiving bytes s) := .of_same

theorem cancelReply_kept (s : State) : Kept s (cancelReply s) := by
  unfold cancelReply
  split
  · exact resetAfterReply_kept s
  · exact (replyGone_kept s).trans (receiving_kept ..)

theorem replyCancelled_kept (s : State) : Kept s (replyCancelled s) := by
  unfold replyCancelled
  split
  · exact cancelReply_kept s
  · exact .refl s

theorem huntCharacter_kept (char : Byte) (s : State) : Kept s (huntCharacter char s) := by
  unfold huntCharacter
  split
  · split
    · exact cancelReply_kept s
    · exact receiving_kept ..
  · exact .refl s

theorem framingError_kept (s : State) : Kept s (framingError s) := by
  unfold framingError
  split
  · exact .refl s
  · exact hunting_kept s

theorem takeFrame_kept {act : State → State} (h : ∀ s, Kept s (act s)) (s : State) : Kept s (takeFrame act s) := by
  unfold takeFrame
  split
  · exact .refl s
  · split
    · exact resetAfterReply_kept s
    · exact ((replyGone_kept s).trans (hunting_kept _)).trans (h _)

/-- What a request does where it is addressed keeps the invariants, whatever its payload. -/
def HandlerKept (h : Handler) : Prop := ∀ payload s, Kept s (h payload s).1

theorem frameArrives_kept {onBroadcast : State → State} {h : State → State × Reply} (kind dest : Byte)
    (hb : ∀ s, Kept s (onBroadcast s)) (hh : ∀ s, Kept s (h s).1) (s : State) :
    Kept s (frameArrives kind dest onBroadcast h s) := by
  refine takeFrame_kept (fun s => ?_) s
  split
  · exact (linkAlive_kept s).trans (hb _)
  · split
    · exact ((linkAlive_kept s).trans (hh _)).trans .of_same
    · exact .refl s

theorem request_kept {h : Handler} (hh : HandlerKept h) (kind dest : Byte) (payload : List Byte) (s : State) :
    Kept s (request kind dest payload h s) := frameArrives_kept kind dest .refl (hh payload) s

theorem broadcastRequest_kept {h : Handler} (hh : HandlerKept h) (kind dest : Byte) (payload : List Byte) (s : State) :
    Kept s (broadcastRequest kind dest payload h s) := by
  refine frameArrives_kept kind dest (fun s => ?_) (hh payload) s
  split
  · exact hh payload s
  · exact .refl s

theorem HandlerKept.withNothing {k : State → State × Reply} (h : ∀ s, Kept s (k s).1) :
    HandlerKept (withNothing k) := by
  intro payload s
  unfold Machine.withNothing
  split
  · exact h s
  · exact .refl s

theorem HandlerKept.withByte {k : Nat → State → State × Reply} (h : ∀ n s, Kept s (k n s).1) :
    HandlerKept (withByte k) := by
  intro payload s
  unfold Machine.withByte
  split
  · exact h _ s
  · exact .refl s

theorem withUnit_kept {α : Type} {k : α → State → State × Reply} (h : ∀ a s, Kept s (k a s).1) (u : Option α)
    (s : State) : Kept s (withUnit u k s).1 := by
  unfold withUnit
  split
  · exact h _ s
  · exact .refl s

theorem refuseEnum_kept (n : Nat) : HandlerKept (refuseEnum n) := by
  intro payload s
  unfold refuseEnum
  split <;> exact .refl s

theorem enumStartTaken_kept (all : Bool) (s : State) : Kept s (enumStartTaken all s) := by
  unfold enumStartTaken
  split
  · exact .refl s
  · exact .of_same
  · split
    · exact .of_same
    · exact .refl s

theorem enumStart_kept (dest : Byte) (payload : List Byte) (s : State) : Kept s (enumStart dest payload s) := by
  refine frameArrives_kept _ dest (fun s => ?_) (refuseEnum_kept 1 payload) s
  unfold enumStartBroadcast
  split
  · split
    · exact enumStartTaken_kept ..
    · split
      · exact enumStartTaken_kept ..
      · exact .refl s
  · exact .refl s

theorem enumProbe_kept (dest : Byte) (payload : List Byte) (s : State) : Kept s (enumProbe dest payload s) := by
  refine frameArrives_kept _ dest (fun s => ?_) (refuseEnum_kept 7 payload) s
  unfold enumProbeBroadcast
  split
  · split
    · exact .of_same
    · exact .refl s
  · exact .refl s

theorem enumAssign_kept (dest : Byte) (payload : List Byte) (s : State) : Kept s (enumAssign dest payload s) := by
  refine frameArrives_kept _ dest (fun s => ?_) (refuseEnum_kept 7 payload) s
  unfold enumAssignBroadcast
  split
  · split
    · exact .of_same
    · exact .refl s
  · exact .refl s

theorem enumEnd_kept (dest : Byte) (payload : List Byte) (s : State) : Kept s (enumEnd dest payload s) := by
  refine frameArrives_kept _ dest (fun s => ?_) (refuseEnum_kept 0 payload) s
  unfold enumEndBroadcast
  split
  · exact .of_same
  · exact .refl s

end Sys2Proof.Machine
end

section
/-! The requests of the niche line, the receiver, the commands and the idle step keep the demand stage, the doors and the
slots. -/

namespace Sys2Proof.Machine

/-! ### Requests that read (R21, R61, R71, R114, R129, R135, R164, R165, R171, R173) -/

theorem identifyTaken_kept : HandlerKept identifyTaken := .withNothing fun s => .refl s

theorem statusTaken_kept : HandlerKept statusTaken := .withNothing fun s => .refl s

theorem readChannelTaken_kept : HandlerKept readChannelTaken :=
  .withByte fun _ s => withUnit_kept
    (fun c s => .withChannel (x := { s.channel c with limited := false }) Iff.rfl rfl) _ s

theorem readFanTaken_kept : HandlerKept readFanTaken := .withByte fun _ s => withUnit_kept (fun _ s => .refl s) _ s

theorem readDoorTaken_kept : HandlerKept readDoorTaken := .withByte fun _ s => withUnit_kept (fun _ s => .refl s) _ s

theorem getScenarioTaken_kept : HandlerKept getScenarioTaken := .withByte fun n s => by
  split
  · exact .refl s
  · split <;> exact .refl s

theorem pollTaken_kept : HandlerKept pollTaken := .withNothing fun s => by
  split
  · exact .refl s
  · exact .of_same

theorem getParamTaken_kept : HandlerKept getParamTaken := by
  intro payload s
  unfold getParamTaken
  split
  · split
    · exact .refl s
    · split <;> exact .refl s
  · exact .refl s

/-! ### SET_PARAM (R174) -/

theorem exists_of_map_eq_ok {ε α β : Type} {f : α → β} {x : Except ε α} {b : β} (h : x.map f = .ok b) :
    ∃ a, x = .ok a ∧ f a = b := by
  cases x with
  | error e => cases h
  | ok a => exact ⟨a, rfl, Except.ok.inj h⟩

/-- A write to another unit leaves the channels' settings. -/
theorem Settings.write_channels {p q : Settings} {u : UnitName} {index v : Nat} (hu : ∀ c, u ≠ .channel c)
    (h : p.write u index v = .ok q) : q.channels = p.channels := by
  cases u with
  | channel c => exact absurd rfl (hu c)
  | controller | fan | door =>
    obtain ⟨_, _, rfl⟩ := exists_of_map_eq_ok h
    rfl

theorem ranged_eq_ok {α : Type} {lo hi v : Nat} {p q : α} (h : ranged lo hi v p = .ok q) : q = p := by
  unfold ranged at h
  split at h
  · exact (Except.ok.inj h).symm
  · cases h

theorem ChannelSettings.writeThreshold_eq_ok {p q : ChannelSettings} (h : p.writeThreshold = .ok q) : q = p := by
  unfold ChannelSettings.writeThreshold at h
  split at h
  · exact (Except.ok.inj h).symm
  · cases h

/-- Of a channel's parameters the kind and the contribution flag alone bear on whether the channel contributes (R18, R34). -/
theorem ChannelSettings.write_contributes {p q : ChannelSettings} {index v : Nat} (h0 : index ≠ 0) (h12 : index < 12)
    (h : p.write index v = .ok q) : q.contributes = p.contributes := by
  match index, h0, h12, h with
  | 1, _, _, h | 2, _, _, h | 3, _, _, h | 4, _, _, h | 8, _, _, h | 9, _, _, h | 10, _, _, h | 11, _, _, h =>
    rw [ranged_eq_ok h]
  | 5, _, _, h | 6, _, _, h | 7, _, _, h => rw [ChannelSettings.writeThreshold_eq_ok h]

theorem channelCfg_withChannel (s : State) (c : Fin 8) (x : ChannelSettings) (e : Fin 8) :
    (s.withSettings (s.settings.withChannel c x)).channelCfg e = if e = c then x else s.channelCfg e := by
  by_cases h : e = c
  · subst h
    simp [State.channelCfg, Settings.withChannel]
  · have : (c : Nat) ≠ e := fun k => h (Fin.ext k.symm)
    simp [State.channelCfg, Settings.withChannel, State.settings, this, h]

/-- Settings of a channel under which it contributes as before. -/
theorem Kept.withChannelSettings {s : State} {c : Fin 8} {x : ChannelSettings}
    (h : x.contributes = (s.channelCfg c).contributes) : Kept s (s.withSettings (s.settings.withChannel c x)) := by
  have same (e : Fin 8) : contributing (s.withSettings (s.settings.withChannel c x)) e = contributing s e := by
    rw [Bool.eq_iff_iff, contributing_iff, contributing_iff, channelCfg_withChannel]
    split
    · next he => simp [he, h]
    · rfl
  have stage : demandStage (s.withSettings (s.settings.withChannel c x)) = demandStage s :=
    demandStage_congr rfl fun e => ⟨same e, fun _ => rfl⟩
  exact .of_doors (fun k => k.trans stage.symm) rfl

theorem channelChanged_kept {s : State} {c : Fin 8} {x : ChannelSettings} {index v : Nat} (hi : index < 13)
    (h : (s.channelCfg c).write index v = .ok x) :
    Kept s (channelChanged c index (s.withSettings (s.settings.withChannel c x))) := by
  by_cases hr : index = 0 ∨ index = 12
  · obtain rfl | rfl := hr <;> exact recomputeDemand_kept rfl
  · refine (Kept.withChannelSettings (ChannelSettings.write_contributes (by omega) (by omega) h)).trans ?_
    unfold channelChanged
    split
    · omega
    · unfold substituteChanged
      split
      · exact setLevel_kept ..
      · exact .refl _
    · omega
    · exact .refl _

theorem controllerChanged_kept (index : Nat) (old : Settings) (s : State) : Kept s (controllerChanged index old s) := by
  unfold controllerChanged
  split
  · unfold testLink
    split
    · exact linkExpires_kept s
    · exact .refl s
  · exact .of_fan (pressFanChanged_frame ..)
  · unfold stationChanged
    split
    · exact .of_same
    · exact .refl s
  · exact .refl s

theorem acceptWrite_kept {s : State} {u : UnitName} {index v : Nat} {p : Settings} (hi : index < indexCount u)
    (h : s.settings.write u index v = .ok p) : Kept s (acceptWrite u index p s) := by
  have other (hu : ∀ c, u ≠ .channel c) : Kept s (s.withSettings p) :=
    .of_same rfl rfl (Settings.write_channels hu h)
  unfold acceptWrite
  split
  · exact .refl s
  · cases u with
    | controller => exact (other fun _ => nofun).trans (controllerChanged_kept ..)
    | channel c =>
      obtain ⟨x, hx, rfl⟩ := exists_of_map_eq_ok h
      exact channelChanged_kept hi hx
    | fan f => exact (other fun _ => nofun).trans (.of_fan (fanChanged_frame ..))
    | door d => exact (other fun _ => nofun).trans (.of_door (doorChanged_kept ..))

theorem writeParam_kept {s t : State} {u : UnitName} {index v : Nat} (hi : index < indexCount u)
    (h : writeParam u index v s = .ok t) : Kept s t := by
  unfold writeParam at h
  split at h
  · cases h
  · split at h
    · cases h
    · next hw =>
      split at h
      · cases h
      · cases h
        exact acceptWrite_kept hi hw

theorem setParamTaken_kept : HandlerKept setParamTaken := by
  intro payload s
  unfold setParamTaken
  split
  · split
    · exact .refl s
    · split
      · next hi =>
        split
        · exact .refl s
        · next hw => exact writeParam_kept hi hw
      · exact .refl s
  · exact .refl s

/-! ### SAVE, LOCK, RESET, SET_ACTIVE, SET_SCENARIO (R19, R63, R116, R134, R166, R175 to R177) -/

theorem saveTaken_kept : HandlerKept saveTaken := .withNothing fun s => by
  split
  · exact .refl s
  · exact .of_same

theorem lockTaken_kept : HandlerKept lockTaken := .withByte fun n s => by
  split
  · exact .refl s
  · split
    · exact .refl s
    · exact .of_same

theorem resetTaken_kept : HandlerKept resetTaken := .withNothing fun s => by
  split
  · exact .refl s
  · exact .of_same

theorem setLevel_doors (c : Fin 8) (n : Nat) (s : State) : (setLevel c n s).doors = s.doors := levelChanged_doors ..

/-- A channel switched off or on has the stage recomputed (R19, R33). -/
theorem channelOff_kept (c : Fin 8) (s : State) : Kept s (channelOff c s) := by
  unfold channelOff
  split
  · exact .refl s
  · exact recomputeDemand_kept (setLevel_doors ..)

theorem channelOn_kept (c : Fin 8) (s : State) : Kept s (channelOn c s) := by
  unfold channelOn
  split
  · exact recomputeDemand_kept rfl
  · exact .refl s

theorem doorOn_kept (d : Fin 2) (s : State) : Kept s (doorOn d s) := by
  unfold doorOn
  split
  · next hs =>
    exact (Kept.of_door (doorStarts_kept hs)).trans (.takeInAnyOrder (fun src s => .of_door (arrive_kept d src s)) _ _)
  · exact .refl s

theorem switchUnit_kept (u : UnitName) (on : Bool) (s : State) : Kept s (switchUnit u on s) := by
  unfold switchUnit
  split
  · exact .refl s
  · exact channelOff_kept ..
  · exact channelOn_kept ..
  · exact .of_fan (fanOff_frame ..)
  · exact .of_fan (fanOn_frame ..)
  · exact .of_door (doorOff_kept ..)
  · exact doorOn_kept ..

/-- The active flag of a unit bears on nothing until the unit is switched. -/
theorem withActive_kept (u : UnitName) (on : Bool) (s : State) :
    Kept s (s.withSettings (s.settings.withActive u on)) := by
  cases u with
  | channel c => exact .withChannelSettings rfl
  | controller | fan | door => exact .of_same

theorem setActiveTaken_kept : HandlerKept setActiveTaken := by
  intro payload s
  unfold setActiveTaken
  split
  · refine withUnit_kept (fun unit s => ?_) _ s
    split
    · exact .refl s
    · split
      · exact .refl s
      · exact (withActive_kept ..).trans (switchUnit_kept ..)
  · exact .refl s

theorem Settings.withScenario_channels (p : Settings) (n : Nat) (r : ScenarioRecord) :
    (p.withScenario n r).channels = p.channels := by
  unfold Settings.withScenario
  split <;> rfl

theorem setScenarioTaken_kept : HandlerKept setScenarioTaken := by
  intro payload s
  unfold setScenarioTaken
  split
  · split
    · unfold writeScenario
      split
      · exact .refl s
      · split
        · exact .refl s
        · split
          · exact .of_same rfl rfl (Settings.withScenario_channels ..)
          · exact .refl s
    · exact .refl s
  · exact .refl s

/-! ### Requests that drive the part (R37, R44, R59, R105, R112, R113, R131, R142 to R144, R151) -/

theorem setModeTaken_kept : HandlerKept setModeTaken := .withByte fun v s => by
  split
  · exact .refl s
  · split
    · exact .refl s
    · split
      · exact .refl s
      · exact changeMode_kept ..

theorem fanSetTaken_kept : HandlerKept fanSetTaken := by
  intro payload s
  unfold fanSetTaken
  split
  · refine withUnit_kept (fun f s => ?_) _ s
    split
    · exact .refl s
    · dsimp only
      split
      · exact .of_fan (takeSetpoint_frame ..)
      · exact .refl s
  · exact .refl s

theorem fanClearTaken_kept : HandlerKept fanClearTaken := .withByte fun u s => by
  refine withUnit_kept (fun f s => ?_) _ s
  split
  · exact .of_fan (clearLockout_frame ..)
  · exact .refl s

theorem resumeTaken_kept : HandlerKept resumeTaken := .withNothing fun s => by
  split
  · exact .refl s
  · exact .of_fan (resumeFans_frame s)

theorem demandFloorTaken_kept : HandlerKept demandFloorTaken := .withByte fun _ _ => recomputeDemand_kept rfl

theorem armTaken_kept : HandlerKept armTaken := by
  intro payload s
  unfold armTaken
  split
  · split
    · exact .of_same
    · exact .refl s
  · exact .refl s

theorem disarmTaken_kept : HandlerKept disarmTaken := .withNothing fun _ => .of_same

theorem engageTaken_kept : HandlerKept engageTaken := .withByte fun tag s => by
  split
  · exact engageScenario_kept 0 .engage 0 s
  · split
    · exact engageScenario_kept ..
    · exact .report ..

theorem engageNowTaken_kept : HandlerKept engageNowTaken := .withByte fun n s => by
  split
  · exact .refl s
  · exact engageScenario_kept ..

theorem doorTravelTaken_kept : HandlerKept doorTravelTaken := by
  intro payload s
  unfold doorTravelTaken
  split
  · refine withUnit_kept (fun d s => ?_) _ s
    split
    · split
      · exact .refl s
      · exact .of_door (takeTravel_kept (.inl rfl))
    · exact .refl s
  · exact .refl s

theorem doorAbortTaken_kept : HandlerKept doorAbortTaken := .withByte fun u s => by
  refine withUnit_kept (fun d s => ?_) _ s
  split
  · exact .refl s
  · split
    · exact .of_door ((clearSlot_kept d s).trans (endTravel_kept ..))
    · exact .refl s

theorem doorEscapeTaken_kept : HandlerKept doorEscapeTaken := .withByte fun u s => by
  refine withUnit_kept (fun d s => ?_) _ s
  split
  · exact .refl s
  · exact .of_door (arrive_kept ..)

/-! ### The receiver (R157) -/

theorem takeRequest_kept (i : Instr) (s : State) : Kept s (takeRequest i s) := by
  cases i with
  | invalidFrame flaw => exact takeFrame_kept .refl s
  | unknownKind dest kind payload =>
    exact request_kept (h := fun _ => refuse .unknownKind) (fun _ s => .refl s) kind dest payload s
  | enumStart dest payload => exact enumStart_kept ..
  | enumProbe dest payload => exact enumProbe_kept ..
  | enumAssign dest payload => exact enumAssign_kept ..
  | enumEnd dest payload => exact enumEnd_kept ..
  | identify dest payload => exact request_kept identifyTaken_kept ..
  | status dest payload => exact request_kept statusTaken_kept ..
  | readChannel dest payload => exact request_kept readChannelTaken_kept ..
  | readFan dest payload => exact request_kept readFanTaken_kept ..
  | readDoor dest payload => exact request_kept readDoorTaken_kept ..
  | getParam dest payload => exact request_kept getParamTaken_kept ..
  | setParam dest payload => exact request_kept setParamTaken_kept ..
  | save dest payload => exact request_kept saveTaken_kept ..
  | lock dest payload => exact request_kept lockTaken_kept ..
  | setActive dest payload => exact request_kept setActiveTaken_kept ..
  | setScenario dest payload => exact request_kept setScenarioTaken_kept ..
  | getScenario dest payload => exact request_kept getScenarioTaken_kept ..
  | setMode dest payload => exact request_kept setModeTaken_kept ..
  | fanSet dest payload => exact request_kept fanSetTaken_kept ..
  | fanClear dest payload => exact request_kept fanClearTaken_kept ..
  | resume dest payload => exact request_kept resumeTaken_kept ..
  | demandFloor dest payload => exact request_kept demandFloorTaken_kept ..
  | arm dest payload => exact broadcastRequest_kept armTaken_kept ..
  | disarm dest payload => exact broadcastRequest_kept disarmTaken_kept ..
  | engage dest payload => exact broadcastRequest_kept engageTaken_kept ..
  | engageNow dest payload => exact request_kept engageNowTaken_kept ..
  | doorTravel dest payload => exact request_kept doorTravelTaken_kept ..
  | doorAbort dest payload => exact request_kept doorAbortTaken_kept ..
  | doorEscape dest payload => exact request_kept doorEscapeTaken_kept ..
  | poll dest payload => exact request_kept pollTaken_kept ..
  | reset dest payload => exact request_kept resetTaken_kept ..
  | _ => exact .refl s

theorem appendCharacter_kept (bytes : List Byte) (s : State) : Kept s (appendCharacter bytes s) := by
  unfold appendCharacter
  split
  · exact hunting_kept s
  · split
    · split
      · exact (hunting_kept s).trans (takeRequest_kept ..)
      · exact hunting_kept s
    · exact receiving_kept ..

theorem startByte_kept (char : Byte) (s : State) : Kept s (startByte char s) := by
  unfold startByte
  split
  · exact .refl s
  · split
    · exact huntCharacter_kept ..
    · exact appendCharacter_kept ..

/-! ### Every command -/

theorem exec_kept {i : Instr} {s t : State} (h : exec i s = .next t) : Kept s t := by
  have request := takeRequest_kept i s
  cases i with
  | powerOnReset straps pins => cases h; exact powerOnReset_kept ..
  | warmReset pins => cases h; exact warmResetDue_kept ..
  | sampleInstant c current => cases h; exact sampleInstant_kept ..
  | rampInstant f => cases h; exact .of_fan (rampInstant_frame ..)
  | startLimitExpiry f => cases h; exact .of_fan (startLimitExpiry_frame ..)
  | verifyWindowExpiry f => cases h; exact .of_fan (verifyWindowExpiry_frame ..)
  | faultInputChange f asserted => cases h; exact .of_fan (faultInputChange_frame ..)
  | coastConditionsMet f => cases h; exact .of_fan (coastConditionsMet_frame ..)
  | creditRegeneration f => cases h; exact .of_fan (creditRegeneration_frame ..)
  | acceptedEdge f high samples => cases h; exact .of_fan (acceptedEdge_frame ..)
  | tachTimeout f => cases h; exact .of_fan (tachTimeout_frame ..)
  | encoderEdge d edge => cases h; exact .of_door (encoderEdge_kept ..)
  | endStopChange d stop asserted => cases h; exact .of_door (endStopChange_kept ..)
  | safetyEdgeChange d asserted => cases h; exact .of_door (safetyEdgeChange_kept ..)
  | presenceChange d asserted => cases h; exact .of_door (presenceChange_kept ..)
  | escapeButtonPress d side pressed => cases h; exact .of_door (escapeButtonPress_kept ..)
  | serviceButtonPress d dir => cases h; exact .of_door (serviceButtonPress_kept ..)
  | serviceButtonRelease d dir => cases h; exact .of_door (serviceButtonRelease_kept ..)
  | settleExpiry d => cases h; exact .of_door (settleExpiry_kept ..)
  | travelTimeout d => cases h; exact .of_door (travelTimeout_kept ..)
  | holdOpenExpiry d => cases h; exact .of_door (holdOpenExpiry_kept ..)
  | reopenExpiry d => cases h; exact .of_door (reopenExpiry_kept ..)
  | reliefTimeout d => cases h; exact .of_door (reliefTimeout_kept ..)
  | blindReliefExpiry d => cases h; exact .of_door (blindReliefExpiry_kept ..)
  | startDelayExpiry f => cases h; exact startDelayExpiry_kept ..
  | linkTimeout => cases h; exact linkTimeout_kept s
  | stopAsserted => cases h; exact stopAsserted_kept s
  | stopReleased => cases h; exact stopReleased_kept s
  | escapeAsserted => cases h; exact escapeAsserted_kept s
  | escapeReleased => cases h; exact escapeReleased_kept s
  | maintAsserted => cases h; exact maintAsserted_kept s
  | maintReleased => cases h; exact maintReleased_kept s
  | rxGapTimeout => cases h; exact hunting_kept s
  | replySent phase => cases h; exact replySent_kept ..
  | replyCancelled => cases h; exact replyCancelled_kept s
  | saveComplete agrees => cases h; exact finishWrite_kept ..
  | startByte char => cases h; exact startByte_kept ..
  | framingError => cases h; exact framingError_kept s
  | _ => cases h; exact request

/-! ### The idle step (log entry 1) -/

theorem advanceTimers_door (s : State) (d : Fin 2) :
    (advanceTimers s).door d = tickDoor (s.doorCfg d) (s.door d) := by
  match d with
  | 0 | 1 => rfl

theorem advanceTimers_kept (s : State) : Kept s (advanceTimers s) :=
  .of_each (demandOk_of_same rfl rfl rfl) fun d => by
    rw [advanceTimers_door]
    exact tickDoor_same ..

/-- An end of relief that is due meets a RELIEVING door. -/
theorem relieving_of_due {s : State} {d : Fin 2} (h : (Expiry.blind d).due s = true ∨ (Expiry.relief d).due s = true) :
    (s.door d).state = .relieving := by
  simp only [Expiry.due, blindDue, reliefDue, Bool.and_eq_true, beq_iff_eq] at h
  obtain ⟨⟨⟨h, _⟩, _⟩, _⟩ | ⟨⟨⟨h, _⟩, _⟩, _⟩ := h <;> exact h

theorem expiryAct_kept {e : Expiry} {s : State} (h : e.due s = true) : Kept s (e.act s) := by
  cases e with
  | coast f => exact .of_fan (coastTest_frame ..)
  | startLimit f => exact .of_fan (startLimitExpiry_frame ..)
  | verify f => exact .of_fan (verifyWindowExpiry_frame ..)
  | credit f => exact .of_fan (creditRegeneration_frame ..)
  | tach f => exact .of_fan (tachTimeout_frame ..)
  | edge f => exact .of_fan (tachTakesSamples_frame f 50 s)
  | delay f => exact startDelayExpiry_kept ..
  | settle d => exact .of_door (settleExpiry_kept ..)
  | travelStep d => exact .of_door (testTravel_kept ..)
  | travel d => exact .of_door (travelTimeout_kept ..)
  | hold d => exact .of_door (holdOpenExpiry_kept ..)
  | reopen d => exact .of_door (reopenExpiry_kept ..)
  | blind d => exact .of_door ((endRelief_kept (relieving_of_due (.inl h))).trans (testStart_kept ..))
  | relief d => exact .of_door ((endRelief_kept (relieving_of_due (.inr h))).trans (testStart_kept ..))
  | link => exact linkTimeout_kept s
  | gap => exact hunting_kept s
  | stop => exact stopAsserted_kept s
  | escape => exact escapeAsserted_kept s
  | maint => exact maintAsserted_kept s

theorem expiryTake_kept (e : Expiry) (s : State) : Kept s (e.take s) := by
  unfold Expiry.take
  split
  · next h => exact expiryAct_kept h
  · exact .refl s

theorem tick_kept (s : State) : Kept s (tick s) :=
  (advanceTimers_kept s).trans (.takeInAnyOrder expiryTake_kept _ _)

/-! ### Every step -/

theorem step_kept {s t : State} (h : step s = .next t) : Kept s t := by
  unfold step at h
  split at h
  · cases h
    exact tick_kept s
  · exact Kept.trans .of_same (exec_kept h)

/-- Settles O59: every step keeps each of the three, whatever becomes of the other two. -/
theorem stepsKeepDemandAndDoors : Obligations.StepsKeepDemandAndDoors :=
  ⟨fun _ _ k h => (step_kept h).demand k, fun _ _ k h => (step_kept h).doors k, fun _ _ k h => (step_kept h).slots k⟩

end Sys2Proof.Machine
end

section
/-! Facts about the model's own functions that the proofs about fans, the feed arbiter and the targets use: one for each operation,
with no invariant in them. -/

namespace Sys2Proof.Machine

-- Without variables the option bears on one thing only: each proof is elaborated where it stands, not beside the others. Behind the
-- many proofs above, these would else need more threads than the memory of a check holds.
set_option deprecated.oldSectionVars true

/-! ### Settings and frames -/

theorem ctl_of_store {s t : State} (h : t.store = s.store) : t.ctl = s.ctl := by simp only [State.ctl, h]

theorem fanCfg_of_store {s t : State} (h : t.store = s.store) (f : Fin 4) : t.fanCfg f = s.fanCfg f := by
  simp only [State.fanCfg, h]

theorem FanFrame.fanCfg {s t : State} (h : FanFrame s t) (f : Fin 4) : t.fanCfg f = s.fanCfg f := by
  simp only [State.fanCfg, h.store]

theorem FanFrame.ctl {s t : State} (h : FanFrame s t) : t.ctl = s.ctl := by simp only [State.ctl, h.store]

theorem FanFrame.incident {s t : State} (h : FanFrame s t) : t.incident = s.incident := by
  simp only [State.incident, h.modes]

theorem dividing_eq_ok {α : Type} {v : Nat} {p q : α} (h : dividing v p = .ok q) : q = p := by
  unfold dividing at h
  split at h
  · exact (Except.ok.inj h).symm
  · cases h

theorem coded_eq_ok {α β : Type} {c : Option α} {k : α → Except ResultCode β} {b : β} (h : coded c k = .ok b) :
    ∃ a, c = some a ∧ k a = .ok b := by
  cases c with
  | none => cases h
  | some a => exact ⟨a, rfl, h⟩

theorem le_of_ranged {α : Type} {lo hi v : Nat} {p q : α} (h : ranged lo hi v p = .ok q) : lo ≤ v := by
  unfold ranged within at h
  split at h
  · next hr => simp_all
  · cases h

theorem inRange_slotCount {p : Settings} (h : p.inRange = true) : 1 ≤ p.controller.slotCount := by
  simp only [Settings.inRange, Bool.and_eq_true] at h
  obtain ⟨⟨⟨⟨controller, _⟩, _⟩, _⟩, _⟩ := h
  simp only [ControllerSettings.inRange, within, Bool.and_eq_true, decide_eq_true_eq] at controller
  exact controller.1.2.1

/-- A torn copy whose check holds is in range (log entry 10). -/
theorem torn_slotCount {t : Store} {k : Nat} (h : (t.torn k).storedValid = true) :
    1 ≤ (t.torn k).stored.controller.slotCount := by
  by_cases hr : (Config.tornSettings k).inRange = true
  · exact inRange_slotCount hr
  · simp only [Store.storedValid, Store.torn, tornError, hr, Bool.false_or, beq_iff_eq] at h
    split at h
    · next hne => simp [h] at hne
    · cases h

theorem loaded_slotCount {t : Store} (h : t.storedValid = true → 1 ≤ t.stored.controller.slotCount) :
    1 ≤ t.loaded.controller.slotCount := by
  unfold Store.loaded
  split
  · next hv => exact h hv
  · decide

/-! ### Targets (R43, R126, R137) -/

theorem someDoorOpen_congr {s t : State} (h : ∀ d, (t.door d).state = (s.door d).state) : someDoorOpen t = someDoorOpen s := by
  simp only [someDoorOpen, h]

theorem someDoorRelieving_congr {s t : State} (h : ∀ d, (t.door d).state = (s.door d).state) :
    someDoorRelieving t = someDoorRelieving s := by
  simp only [someDoorRelieving, h]

theorem composedTarget_of_ne {s : State} {f : Fin 4} (h : s.ctl.pressFan ≠ some f) :
    composedTarget s f = (s.fan f).modeTarget := by
  simp [composedTarget, h]

/-- The composed target depends on the mode target, the doors' states, the pressurisation fan and its two speeds. -/
theorem composedTarget_congr {s t : State} {f : Fin 4} (hm : (t.fan f).modeTarget = (s.fan f).modeTarget)
    (hd : ∀ d, (t.door d).state = (s.door d).state) (hp : t.ctl.pressFan = some f ↔ s.ctl.pressFan = some f)
    (hb : (t.fanCfg f).boost = (s.fanCfg f).boost) (hr : (t.fanCfg f).relief = (s.fanCfg f).relief) :
    composedTarget t f = composedTarget s f := by
  simp only [composedTarget, hm, hp, hb, hr, someDoorOpen_congr hd, someDoorRelieving_congr hd]

/-- While a door relieves, the pressurisation fan's composed target is at most its relief speed (R126). -/
theorem composedTarget_le {s : State} {f : Fin 4} (hp : s.ctl.pressFan = some f) (hr : someDoorRelieving s = true) :
    (composedTarget s f).speed ≤ (s.fanCfg f).relief := by
  simp [composedTarget, hp, hr]

theorem autoTarget_congr {s t : State} (hp : t.store = s.store) (hd : t.demand.stage = s.demand.stage) (f : Fin 4) :
    autoTarget t f = autoTarget s f := by
  simp only [autoTarget, fanCfg_of_store hp, ctl_of_store hp, hd]

/-- The mode controller gives a fan a target of its own in INCIDENT, or leaves it the mode target it holds (R137, R138). -/
theorem incidentTarget_given_or_held (s : State) (f : Fin 4) :
    (∃ m, ∀ t, t.modes = s.modes → incidentTarget t f = m) ∨
      ∀ t, t.modes = s.modes → incidentTarget t f = (t.fan f).modeTarget := by
  by_cases he : ∃ e, engagedEntry s f = some e ∧ s.modes.delays[f]'f.isLt = .expired
  · obtain ⟨e, he, hd⟩ := he
    refine .inl ⟨⟨e.dir, e.speed⟩, fun t ht => ?_⟩
    have he' : engagedEntry t f = some e := by simpa only [engagedEntry, ht] using he
    simp only [incidentTarget, he', ht, hd]
  · have frozen (t : State) (ht : t.modes = s.modes) :
        incidentTarget t f = (s.modes.frozen.map fun v => v[f]'f.isLt).getD (t.fan f).modeTarget := by
      unfold incidentTarget
      split
      · next e h1 h2 =>
        exact absurd ⟨e, by simpa only [engagedEntry, ht] using h1, by rw [← ht]; exact h2⟩ he
      · rw [ht]
    cases hf : s.modes.frozen with
    | some v => exact .inl ⟨v[f]'f.isLt, fun t ht => by rw [frozen t ht, hf]; rfl⟩
    | none => exact .inr fun t ht => by rw [frozen t ht, hf]; rfl

theorem tickDelay_running (x : Delay) (h : ∀ ms, x ≠ .running ms) : tickDelay x = x := by
  cases x with
  | running ms => exact absurd rfl (h ms)
  | absent | expired => rfl

theorem forallFans {p : Fin 4 → Prop} (h0 : p 0) (h1 : p 1) (h2 : p 2) (h3 : p 3) (f : Fin 4) : p f := by
  match f with
  | 0 => exact h0
  | 1 => exact h1
  | 2 => exact h2
  | 3 => exact h3

theorem tickModes_delays (m : ModeControl) (f : Fin 4) : (tickModes m).delays[f]'f.isLt = tickDelay (m.delays[f]'f.isLt) :=
  forallFans (p := fun f => (tickModes m).delays[f]'f.isLt = tickDelay (m.delays[f]'f.isLt)) rfl rfl rfl rfl f

/-- A start delay that runs on gives the fan nothing new (R137). -/
theorem incidentTarget_tick {s t : State} {f : Fin 4} (hm : t.modes = tickModes s.modes)
    (hf : (t.fan f).modeTarget = (s.fan f).modeTarget) : incidentTarget t f = incidentTarget s f := by
  have entry : engagedEntry t f = engagedEntry s f := by simp only [engagedEntry, hm]; rfl
  have frozen : t.modes.frozen = s.modes.frozen := by rw [hm]; rfl
  have delay : t.modes.delays[f]'f.isLt = tickDelay (s.modes.delays[f]'f.isLt) := by rw [hm, tickModes_delays]
  simp only [incidentTarget, entry, frozen, delay, hf]
  cases engagedEntry s f <;> cases (s.modes.delays[f]'f.isLt) <;> rfl

/-! ### Doors after a reset (R117, R118) -/

theorem closedStateOf_ne_relieving (p : DoorSettings) : closedStateOf p ≠ .relieving := by
  unfold closedStateOf
  split <;> nofun

theorem Door.poweredOn_ne_relieving (p : DoorSettings) (pins : DoorPins) : (Door.poweredOn p pins).state ≠ .relieving := by
  unfold Door.poweredOn Door.started
  dsimp only
  split
  · nofun
  · split
    · exact closedStateOf_ne_relieving p
    · nofun

theorem Door.restarted_ne_relieving (p : DoorSettings) (pins : DoorPins) (x : Door) :
    (Door.restarted p pins x).state ≠ .relieving := by
  have started : ({ x with inputs := pins }.restartState p : DoorState) ≠ .relieving := by
    unfold Door.restartState
    split
    · nofun
    · split
      · nofun
      · split
        · nofun
        · split
          · exact closedStateOf_ne_relieving p
          · split <;> nofun
  unfold Door.restarted Door.startHold
  split <;> exact started

/-! ### One fan -/

theorem reportFanChange_fan (b : FanState) (f : Fin 4) (c : FanCause) (s : State) (g : Fin 4) :
    (reportFanChange b f c s).fan g = s.fan g := by
  unfold reportFanChange
  split
  · rfl
  · split <;> rfl

theorem reportFanChange_arbiter (b : FanState) (f : Fin 4) (c : FanCause) (s : State) :
    (reportFanChange b f c s).arbiter = s.arbiter := by
  unfold reportFanChange
  split
  · rfl
  · split <;> rfl

@[simp] theorem reportFan_arbiter (f : Fin 4) (c : FanCause) (s : State) : (reportFan f c s).arbiter = s.arbiter := rfl

@[simp] theorem reportFan_stop (f : Fin 4) (c : FanCause) (s : State) : (reportFan f c s).stop = s.stop := rfl

@[simp] theorem reportFan_fan (f : Fin 4) (c : FanCause) (s : State) (g : Fin 4) : (reportFan f c s).fan g = s.fan g := rfl

@[simp] theorem leaveArbiter_fan (f : Fin 4) (s : State) :
    (leaveArbiter f s).fan f = { s.fan f with creditWait := false, suspended := false } := by
  simp [leaveArbiter]

theorem leaveArbiter_unserved (f : Fin 4) (s : State) : Unserved (leaveArbiter f s) f := by
  simp [Unserved, leaveArbiter, State.withArbiter]

theorem Unserved.of_arbiter {s t : State} {f : Fin 4} (h : Unserved s f) (k : t.arbiter = s.arbiter) : Unserved t f := by
  unfold Unserved
  rw [k]
  exact h

/-- A state in which a fan drives or asks for a grant: none of these under STOP (R148). -/
def busyState (st : FanState) : Bool := drives st || st == .awaitGrant

theorem outputs_off_iff (x : Fan) : x.forwardOn = false ∧ x.reverseOn = false ↔ drives x.state = false := by
  unfold Fan.forwardOn Fan.reverseOn
  cases x.latched <;> simp

theorem startsPermitted_iff {s : State} {f : Fin 4} :
    startsPermitted s f = true ↔ s.stop.asserted = false ∧ (s.fan f).held = false := by
  simp [startsPermitted]

theorem startLimitReached_starting {f : Fin 4} {s : State} (h : startLimitReached s f = true) : (s.fan f).state = .starting := by
  simp only [startLimitReached, Bool.and_eq_true, beq_iff_eq] at h
  exact h.1.1.1

theorem rampStep_le (cfg : FanSettings) (r aim : Nat) : rampStep cfg r aim ≤ r ∨ rampStep cfg r aim ≤ aim := by
  unfold rampStep
  split
  · exact .inr (Nat.min_le_right ..)
  · split
    · next down => exact .inl (Nat.max_le.mpr ⟨Nat.sub_le .., Nat.le_of_lt down⟩)
    · exact .inl (Nat.le_refl r)

/-- STOP's effect at a fan: its output off, or its request dropped. -/
def Fan.stopped (x : Fan) : Fan :=
  match x.state with
  | .awaitGrant => x.outputsOff .off
  | .starting | .running | .stopping => x.outputsOff .coasting
  | .off | .coasting | .tripped | .lockedOut | .inactive => x

theorem stopFan_fan (f : Fin 4) (s : State) : (stopFan f s).fan f = (s.fan f).stopped := by
  cases h : (s.fan f).state <;> simp [stopFan, Fan.stopped, h]

theorem stopFan_fan_of_ne (f g : Fin 4) (s : State) (h : g ≠ f) : (stopFan f s).fan g = s.fan g := by
  unfold stopFan
  split
  case h_1 | h_2 | h_3 | h_4 => exact State.withFan_fan_of_ne _ _ h
  all_goals rfl

theorem stopFan_arbiter (f : Fin 4) (s : State) : (stopFan f s).arbiter = s.arbiter := by
  unfold stopFan
  split <;> rfl

theorem advanceTimers_fan (s : State) (f : Fin 4) : (advanceTimers s).fan f = tickFan (s.fan f) :=
  forallFans (p := fun f => (advanceTimers s).fan f = tickFan (s.fan f)) rfl rfl rfl rfl f

/-! ### Lists of members -/

theorem mem_allFans (f : Fin 4) : f ∈ allFans := by revert f; decide

theorem allFans_nodup : allFans.Nodup := by decide

theorem takeEach_all {α : Type} {act : α → State → State} (I : State → Prop) (P : α → State → Prop)
    (inv : ∀ x s, I s → I (act x s)) (est : ∀ x s, I s → P x (act x s)) (keep : ∀ x y s, I s → P x s → P x (act y s))
    (l : List α) {s : State} (h : I s) : ∀ x ∈ l, P x (takeEach l act s) := by
  induction l generalizing s with
  | nil => nofun
  | cons y l ih =>
    intro x hx
    obtain rfl | hl := List.mem_cons.mp hx
    · exact (takeEach_inv (fun u => I u ∧ P x u) act (fun z u hu => ⟨inv z u hu.1, keep x z u hu.1 hu.2⟩) l (act x s)
        ⟨inv x s h, est x s h⟩).2
    · exact ih (inv y s h) x hl

/-- What each fan's own event establishes, and the others' events keep, holds of every fan at the end. -/
theorem takeAllFans_all {act : Fin 4 → State → State} (I : State → Prop) (P : Fin 4 → State → Prop)
    (choice : ∀ s, I s → I s.nextChoice) (inv : ∀ f s, I s → I (act f s)) (est : ∀ f s, I s → P f (act f s))
    (keep : ∀ f g s, I s → P f s → P f (act g s)) {s : State} (h : I s) (f : Fin 4) :
    P f (takeInAnyOrder allFans act s) :=
  takeEach_all I P inv est keep _ (choice s h) f ((mem_arrange ..).mpr (mem_allFans f))

/-- What each member's own event establishes, or held before, and the others' events keep, holds at the end. -/
theorem takeInAnyOrder_est {α : Type} {act : α → State → State} {I : State → Prop} {P : α → State → Prop}
    (choice : ∀ s, I s → I s.nextChoice) (still : ∀ x s, P x s → P x s.nextChoice) (inv : ∀ x s, I s → I (act x s))
    (est : ∀ x s, I s → P x (act x s)) (keep : ∀ x y s, I s → P x s → P x (act y s)) {l : List α} {s : State} (h : I s)
    {x : α} (hx : x ∈ l ∨ P x s) : P x (takeInAnyOrder l act s) := by
  unfold takeInAnyOrder
  by_cases hm : x ∈ l
  · exact takeEach_all I P inv est keep _ (choice s h) x ((mem_arrange ..).mpr hm)
  · exact (takeEach_inv (fun u => I u ∧ P x u) act (fun y u hu => ⟨inv y u hu.1, keep x y u hu.1 hu.2⟩) _ s.nextChoice
      ⟨choice s h, still x s (hx.resolve_left hm)⟩).2

/-- Where each member writes its own fan alone, every fan of the list ends as its own write leaves it. -/
theorem takeEach_fan {act : Fin 4 → State → State} {w : Fan → Fan} (own : ∀ f s, (act f s).fan f = w (s.fan f))
    (others : ∀ f g s, g ≠ f → (act f s).fan g = s.fan g) {l : List (Fin 4)} (hl : l.Nodup) (s : State) (f : Fin 4) :
    (takeEach l act s).fan f = if f ∈ l then w (s.fan f) else s.fan f := by
  induction l generalizing s with
  | nil => rfl
  | cons g l ih =>
    obtain ⟨hg, hl⟩ := List.nodup_cons.mp hl
    have step : takeEach (g :: l) act s = takeEach l act (act g s) := rfl
    rw [step, ih hl]
    by_cases hf : f = g
    · subst hf
      simp [hg, own]
    · simp [hf, others g f s hf]

theorem takeEachFan_fan {act : Fin 4 → State → State} {w : Fan → Fan} (own : ∀ f s, (act f s).fan f = w (s.fan f))
    (others : ∀ f g s, g ≠ f → (act f s).fan g = s.fan g) (s : State) (f : Fin 4) :
    (takeEach allFans act s).fan f = w (s.fan f) := by
  rw [takeEach_fan own others allFans_nodup, if_pos (mem_allFans f)]

theorem takeAllFans_fan {act : Fin 4 → State → State} {w : Fan → Fan} (own : ∀ f s, (act f s).fan f = w (s.fan f))
    (others : ∀ f g s, g ≠ f → (act f s).fan g = s.fan g) (s : State) (f : Fin 4) :
    (takeInAnyOrder allFans act s).fan f = w (s.fan f) := by
  unfold takeInAnyOrder
  rw [takeEach_fan own others ((arrange_perm ..).nodup_iff.mpr allFans_nodup),
    if_pos ((mem_arrange ..).mpr (mem_allFans f))]
  rfl

theorem discardSetpoints_fan (s : State) (f : Fin 4) : (discardSetpoints s).fan f = { s.fan f with setpoint := none } :=
  takeEachFan_fan (w := fun x => { x with setpoint := none }) (fun _ _ => State.withFan_fan_self ..)
    (fun _ _ _ h => State.withFan_fan_of_ne _ _ h) s f

/-! ### Requests and grants (R79, R81 to R85) -/

/-- Fan `f` asks for a grant: it waits or is suspended (R80, R84). -/
def listed (s : State) (f : Fin 4) : Bool := s.arbiter.waiting[f]'f.isLt || s.arbiter.suspended.contains f

theorem listed_iff {s : State} {f : Fin 4} : listed s f = true ↔ s.arbiter.waiting[f]'f.isLt = true ∨ f ∈ s.arbiter.suspended := by
  simp [listed]

theorem not_listed_of_unserved {s : State} {f : Fin 4} (h : Unserved s f) : listed s f = false := by
  simp [listed, h.2.2]
  exact h.2.1

theorem Unserved.ne_of_listed {s : State} {f g : Fin 4} (h : Unserved s g) (k : listed s f = true) : g ≠ f := by
  rintro rfl
  simp [not_listed_of_unserved h] at k

theorem urgentRequest_eq_some {s : State} {f : Fin 4} :
    urgentRequest s = some f ↔ s.arbiter.urgency = true ∧ s.ctl.pressFan = some f ∧ listed s f = true := by
  unfold urgentRequest listed
  split
  · next h => simp only [h, Option.filter_eq_some_iff, true_and]
  · next h => simp [h]

theorem urgentRequest_eq_none {s : State} :
    urgentRequest s = none ↔ (s.arbiter.urgency = true → ∀ f, s.ctl.pressFan = some f → listed s f = false) := by
  rw [Option.eq_none_iff_forall_ne_some]
  simp only [ne_eq, urgentRequest_eq_some, not_and, Bool.not_eq_true]
  exact ⟨fun h k f => h f k, fun h f k => h k f⟩

theorem mem_priorityOrder (s : State) (f : Fin 4) : f ∈ priorityOrder s := by
  have all : f ∈ allFans := by revert f; decide
  have after : ∀ g, f ∈ fansAfter g := by revert f; decide
  unfold priorityOrder
  split
  · exact all
  · exact all
  · exact after _

theorem nextRequest_listed {s : State} {f : Fin 4} (h : nextRequest s = some f) : listed s f = true := by
  unfold nextRequest at h
  split at h
  · next k =>
    cases h
    exact (urgentRequest_eq_some.mp k).2.2
  · split at h
    · next k =>
      cases h
      simp [listed, k]
    · have := List.find?_some h
      exact listed_iff.mpr (.inl this)

theorem nextRequest_eq_none {s : State} (h : nextRequest s = none) : NoRequest s := by
  unfold nextRequest at h
  split at h
  · cases h
  · split at h
    · cases h
    · next k =>
      refine ⟨fun f => ?_, k⟩
      simpa using List.find?_eq_none.mp h f (mem_priorityOrder s f)

/-- The fan has the grant, its start-phase test still to be made (R81, R85). -/
def regranted (f : Fin 4) (s : State) : State :=
  reportFan f .grant ((s.withArbiter (s.arbiter.granted f)).withFan f
    { s.fan f with suspended := false, limitUntested := true })

theorem reGrant_eq (f : Fin 4) (s : State) : reGrant f s = startPhaseTest f (regranted f s) := rfl

/-- A grant to a fan, before the start-phase test of a re-grant. -/
def granting (f : Fin 4) (s : State) : State := if s.arbiter.suspended.contains f then regranted f s else firstGrant f s

theorem grant_cases (f : Fin 4) (s : State) :
    grant f s = granting f s ∨ grant f s = startPhaseTest f (granting f s) := by
  unfold grant granting
  split
  · exact .inr rfl
  · exact .inl rfl

theorem granting_arbiter (f : Fin 4) (s : State) : (granting f s).arbiter = s.arbiter.granted f := by
  unfold granting
  split <;> rfl

theorem granting_fan_of_ne {f g : Fin 4} (s : State) (h : g ≠ f) : (granting f s).fan g = s.fan g := by
  unfold granting
  split
  · exact State.withFan_fan_of_ne _ _ h
  · exact State.withFan_fan_of_ne _ _ h

theorem granting_frame (f : Fin 4) (s : State) : FanFrame s (granting f s) := by
  unfold granting
  split
  · exact ((FanFrame.withArbiter _ s).trans (.withFan _ _ _)).trans (reportFan_frame ..)
  · exact firstGrant_frame f s

theorem suspend_fan_of_ne {f g : Fin 4} (s : State) (h : g ≠ f) : (suspend f s).fan g = s.fan g :=
  State.withFan_fan_of_ne _ _ h

theorem suspend_frees {f : Fin 4} {s : State} (hf : f ∈ s.arbiter.holders) :
    (suspend f s).arbiter.holders.length < s.arbiter.holders.length :=
  List.length_filter_lt_length_iff_exists.mpr ⟨f, hf, by simp⟩

theorem suspend_listed {f g : Fin 4} {s : State} (h : listed s g = true) : listed (suspend f s) g = true := by
  obtain hw | hs := listed_iff.mp h
  · exact listed_iff.mpr (.inl hw)
  · exact listed_iff.mpr (.inr (List.mem_append_left _ hs))

/-- What one choice of the arbiter can be: a grant to a fan that asks, where a slot is free, or the urgent request's preemption of
the most recent holder (R81, R83, R84). -/
theorem serveOnce_cases {s t : State} (h : serveOnce s = some t) :
    (∃ f, listed s f = true ∧ slotFree s = true ∧ t = grant f s ∧ (∀ g, urgentRequest s = some g → g = f)) ∨
    ∃ f g, urgentRequest s = some f ∧ s.arbiter.holders.getLast? = some g ∧ slotFree s = false ∧
      t = grant f (suspend g s) := by
  unfold serveOnce at h
  split at h
  · next f hf =>
    split at h
    · next hfree =>
      cases h
      exact .inl ⟨f, (urgentRequest_eq_some.mp hf).2.2, hfree, rfl, fun g hg => by simpa [hf] using hg.symm⟩
    · next hfree =>
      obtain ⟨g, hg, rfl⟩ := Option.map_eq_some_iff.mp h
      exact .inr ⟨f, g, hf, hg, by simpa using hfree, rfl⟩
  · next hf =>
    split at h
    · next hfree =>
      obtain ⟨f, hn, rfl⟩ := Option.map_eq_some_iff.mp h
      exact .inl ⟨f, nextRequest_listed hn, hfree, rfl, fun g hg => by simp [hf] at hg⟩
    · cases h

/-- A relation along every choice of the arbiter holds along its serving. -/
theorem serve_rel (R : State → State → Prop) (refl : ∀ s, R s s) (trans : ∀ s t u, R s t → R t u → R s u)
    (once : ∀ s t, serveOnce s = some t → R s t) (s : State) : R s (serve s) := by
  have all (n : Nat) : R s (serveFor n s) := by
    induction n generalizing s with
    | zero => exact refl s
    | succ n ih =>
      unfold serveFor
      split
      · next t h => exact trans _ _ _ (once s t h) (ih t)
      · exact refl s
  exact all 8

theorem serveOnce_of_noRequest {s : State} (h : NoRequest s) : serveOnce s = none := by
  simp [serveOnce, urgentRequest_of_noRequest h, nextRequest_of_noRequest h]

end Sys2Proof.Machine
end

section
/-! One event at one fan: what it can leave of that fan, of the other fans and of the feed arbiter. Every event of chapters 3 to 5
is a change at the fan itself (`At`) with the arbiter serving behind it where a slot or a request came free (`FanEvent`). -/

namespace Sys2Proof.Machine

/-! ### The fan itself -/

/-- A lockout may come to fan `f` here: outside INCIDENT, or without an entry in the engaged record (R58, R59). -/
def MayLock (s : State) (f : Fin 4) : Prop := s.modes.mode ≠ .incident ∨ (engagedEntry s f).isSome = false

/-- What no event but a new target or mode target changes of a fan, and the bounds within which the rest moves: the reference rises
toward the target only (R52), the credits toward their maximum only (R88), a lockout needs leave (R58, R59). -/
structure FanMild (cfg : FanSettings) (locks : Prop) (x y : Fan) : Prop where
  target : y.target = x.target := by rfl
  modeTarget : y.modeTarget = x.modeTarget := by rfl
  setpoint : y.setpoint = x.setpoint := by rfl
  reference : y.reference ≤ x.reference ∨ y.reference ≤ y.target.speed * 10 := by exact .inl (Nat.le_refl _)
  credits : y.credits ≤ x.credits ∨ y.credits ≤ cfg.maxCredits := by exact .inl (Nat.le_refl _)
  lockout : y.state = .lockedOut → x.state = .lockedOut ∨ locks := by exact .inl

theorem FanMild.trans {cfg : FanSettings} {locks : Prop} {x y z : Fan} (a : FanMild cfg locks x y)
    (b : FanMild cfg locks y z) : FanMild cfg locks x z where
  target := b.target.trans a.target
  modeTarget := b.modeTarget.trans a.modeTarget
  setpoint := b.setpoint.trans a.setpoint
  reference := b.reference.elim (fun le => a.reference.imp le.trans fun k => b.target ▸ le.trans k) .inr
  credits := b.credits.elim (fun le => a.credits.imp le.trans le.trans) .inr
  lockout h := (b.lockout h).elim a.lockout .inr

/-- Outputs off in any state but LOCKED_OUT. -/
theorem FanMild.outputsOff {cfg : FanSettings} {locks : Prop} {x : Fan} {st : FanState} (h : st ≠ .lockedOut) :
    FanMild cfg locks x (x.outputsOff st) where
  reference := .inl (Nat.zero_le _)
  lockout k := absurd k h

/-- As `FanMild`, at every fan of the part. -/
structure Mild (s t : State) : Prop where
  frame : FanFrame s t
  fans : ∀ f, FanMild (s.fanCfg f) (MayLock s f) (s.fan f) (t.fan f)

theorem FanFrame.mayLock {s t : State} (h : FanFrame s t) (f : Fin 4) : MayLock t f = MayLock s f := by
  simp only [MayLock, engagedEntry, h.modes]

theorem Mild.refl (s : State) : Mild s s := ⟨.refl s, fun _ => {}⟩

theorem Mild.trans {s t u : State} (a : Mild s t) (b : Mild t u) : Mild s u :=
  ⟨a.frame.trans b.frame, fun f => (a.fans f).trans (a.frame.fanCfg f ▸ a.frame.mayLock f ▸ b.fans f)⟩

/-! ### A change at one fan -/

/-- A change at fan `f` and at its places with the arbiter, which are given up or kept: the other fans and their places are as they
were. -/
structure At (f : Fin 4) (s t : State) : Prop where
  frame : FanFrame s t
  fans : ∀ g, g ≠ f → t.fan g = s.fan g
  waiting : ∀ g, g ≠ f → t.arbiter.waiting[g]'g.isLt = s.arbiter.waiting[g]'g.isLt
  holders : ∀ g, g ≠ f → (g ∈ t.arbiter.holders ↔ g ∈ s.arbiter.holders)
  suspended : ∀ g, g ≠ f → (g ∈ t.arbiter.suspended ↔ g ∈ s.arbiter.suspended)
  fewerHolders : t.arbiter.holders.Sublist s.arbiter.holders
  fewerSuspended : t.arbiter.suspended.Sublist s.arbiter.suspended
  urgency : t.arbiter.urgency = s.arbiter.urgency
  mild : FanMild (s.fanCfg f) (MayLock s f) (s.fan f) (t.fan f)

theorem At.refl (f : Fin 4) (s : State) : At f s s :=
  ⟨.refl s, fun _ _ => rfl, fun _ _ => rfl, fun _ _ => .rfl, fun _ _ => .rfl, .refl _, .refl _, rfl, {}⟩

theorem At.trans {f : Fin 4} {s t u : State} (a : At f s t) (b : At f t u) : At f s u where
  frame := a.frame.trans b.frame
  fans g h := (b.fans g h).trans (a.fans g h)
  waiting g h := (b.waiting g h).trans (a.waiting g h)
  holders g h := (b.holders g h).trans (a.holders g h)
  suspended g h := (b.suspended g h).trans (a.suspended g h)
  fewerHolders := b.fewerHolders.trans a.fewerHolders
  fewerSuspended := b.fewerSuspended.trans a.fewerSuspended
  urgency := b.urgency.trans a.urgency
  mild := a.mild.trans (a.frame.fanCfg f ▸ a.frame.mayLock f ▸ b.mild)

theorem At.withFan {f : Fin 4} {s : State} {x : Fan} (h : FanMild (s.fanCfg f) (MayLock s f) (s.fan f) x) :
    At f s (s.withFan f x) where
  frame := .withFan ..
  fans _ hg := s.withFan_fan_of_ne x hg
  waiting _ _ := rfl
  holders _ _ := .rfl
  suspended _ _ := .rfl
  fewerHolders := .refl _
  fewerSuspended := .refl _
  urgency := rfl
  mild := by simpa using h

theorem At.report (f : Fin 4) (u : Nat) (r : ReportData) (s : State) : At f s (report u r s) :=
  { At.refl f s with frame := .report u r s }

theorem At.nextChoice (f : Fin 4) (s : State) : At f s s.nextChoice := { At.refl f s with frame := .nextChoice s }

/-- Places on the waiting list taken or left by fan `f` alone. -/
theorem At.withWaiting (f : Fin 4) (b : Bool) (s : State) :
    At f s (s.withArbiter { s.arbiter with waiting := s.arbiter.waiting.set f b f.isLt }) :=
  { At.refl f s with
    frame := .withArbiter ..
    waiting := fun g hg => by
      have : (f : Nat) ≠ g := fun k => hg (Fin.ext k.symm)
      simp [this] }

theorem reportFan_at (f : Fin 4) (c : FanCause) (s : State) : At f s (reportFan f c s) := .report ..

theorem reportFanChange_at (b : FanState) (f : Fin 4) (c : FanCause) (s : State) : At f s (reportFanChange b f c s) := by
  unfold reportFanChange
  split
  · exact .refl f s
  · split <;> exact reportFan_at ..

/-! ### Giving up a place (R57, R73, R84) -/

theorem leaveArbiter_at (f : Fin 4) (s : State) : At f s (leaveArbiter f s) where
  frame := leaveArbiter_frame f s
  fans g hg := by
    unfold leaveArbiter
    rw [State.withFan_fan_of_ne _ _ hg]
    rfl
  waiting g hg := by
    have : (f : Nat) ≠ g := fun k => hg (Fin.ext k.symm)
    simp [leaveArbiter, State.withArbiter, this]
  holders g hg := by simp [leaveArbiter, State.withArbiter, hg]
  suspended g hg := by simp [leaveArbiter, State.withArbiter, hg]
  fewerHolders := List.filter_sublist
  fewerSuspended := List.filter_sublist
  urgency := rfl
  mild := by rw [leaveArbiter_fan]; exact {}

/-- A fan whose place is given up, in a state of its own. -/
theorem leaveAndWrite_at {f : Fin 4} {s : State} {x : Fan}
    (h : FanMild (s.fanCfg f) (MayLock s f) ((leaveArbiter f s).fan f) x) :
    At f s ((leaveArbiter f s).withFan f x) :=
  (leaveArbiter_at f s).trans (.withFan h)

theorem enterCoasting_at (f : Fin 4) (s : State) : At f s (enterCoasting f s) :=
  leaveAndWrite_at (.outputsOff nofun)

theorem enterStopping_at (f : Fin 4) (s : State) : At f s (enterStopping f s) := by
  unfold enterStopping
  dsimp only
  split
  · exact leaveAndWrite_at (.outputsOff nofun)
  · exact leaveAndWrite_at { lockout := nofun }

theorem trip_at (f : Fin 4) (c : TripCause) (s : State) : At f s (trip f c s) :=
  leaveAndWrite_at ((FanMild.outputsOff (st := .tripped) nofun).trans { lockout := nofun })

theorem enterRunning_at (f : Fin 4) (b : Bool) (s : State) : At f s (enterRunning f b s) :=
  leaveAndWrite_at { lockout := nofun }

theorem enterAwait_at (f : Fin 4) (s : State) : At f s (enterAwait f s) := by
  unfold enterAwait
  dsimp only
  refine (At.withFan (x := { s.fan f with state := .awaitGrant, latched := (s.fan f).target.dir })
    { lockout := nofun }).trans ?_
  split
  · exact trip_at ..
  · split
    · exact .withWaiting ..
    · exact .withFan {}

theorem reapply_at (f : Fin 4) (s : State) : At f s (reapply f s) := by
  unfold reapply
  split
  · exact enterAwait_at f s
  · exact .refl f s

theorem enterOff_at (f : Fin 4) (s : State) : At f s (enterOff f s) :=
  (At.withFan (.outputsOff (st := .off) nofun)).trans (reapply_at ..)

theorem startPhaseTest_at (f : Fin 4) (s : State) : At f s (startPhaseTest f s) := by
  unfold startPhaseTest
  split
  · exact (enterRunning_at f false s).trans (reportFan_at ..)
  · exact .refl f s

/-- A new target acts as a change at the fan that already holds it (R48 to R51, R53, R55, R56). -/
theorem takeTarget_at (f : Fin 4) (t : Target) (s : State) :
    At f (s.withFan f { s.fan f with target := t }) (takeTarget f t s) := by
  unfold takeTarget
  dsimp only
  split
  · exact reapply_at ..
  · split
    · exact leaveAndWrite_at (.outputsOff nofun)
    · exact .withFan {}
  · split
    · exact enterStopping_at ..
    · split
      · exact .refl ..
      · split
        · exact enterCoasting_at ..
        · exact enterStopping_at ..
  · split
    · exact enterStopping_at ..
    · split
      · exact .refl ..
      · split
        · exact enterCoasting_at ..
        · exact enterStopping_at ..
  · split
    · exact .withFan { lockout := nofun }
    · exact .refl ..
  all_goals exact .refl ..

end Sys2Proof.Machine
end

section
/-! The order of the feed arbiter (R40, R79, R80, R84, R90, R148): each fan's places agree with its state, event by event, and
whatever the arbiter serves keeps them so and leaves nothing unserved. -/

namespace Sys2Proof.Machine

/-! ### The places of one fan -/

/-- Fan `f` is where its state says: a holder or suspended in STARTING, waiting or under CREDIT_WAIT in AWAIT_GRANT alone, at a
reference of 0 with its output off, and neither driving nor asking under STOP. -/
structure PlaceOk (s : State) (f : Fin 4) : Prop where
  holds : f ∈ s.arbiter.holders → (s.fan f).state = .starting
  suspends : f ∈ s.arbiter.suspended → (s.fan f).state = .starting ∧ f ∉ s.arbiter.holders
  waits : s.arbiter.waiting[f]'f.isLt = true → (s.fan f).state = .awaitGrant ∧ (s.fan f).creditWait = false
  creditWaits : (s.fan f).creditWait = true → (s.fan f).state = .awaitGrant
  awaits : (s.fan f).state = .awaitGrant → s.arbiter.waiting[f]'f.isLt = true ∨ (s.fan f).creditWait = true
  atRest : drives (s.fan f).state = false → (s.fan f).reference = 0
  stops : s.stop.asserted = true → busyState (s.fan f).state = false

/-- `ArbiterOk` and `StopOk` together, fan by fan. -/
structure InOrder (s : State) : Prop where
  slots : s.arbiter.holders.length ≤ s.ctl.slotCount
  holdersOnce : s.arbiter.holders.Nodup
  suspendedOnce : s.arbiter.suspended.Nodup
  places : ∀ f, PlaceOk s f

theorem inOrder_iff {s : State} : InOrder s ↔ ArbiterOk s ∧ StopOk s := by
  constructor
  · rintro ⟨hslots, hh, hs, hp⟩
    refine ⟨⟨hslots, hh, fun f => (hp f).holds, hs, fun f => (hp f).suspends, fun f => (hp f).waits,
      fun f => (hp f).creditWaits, fun f => (hp f).awaits, fun f => (hp f).atRest⟩, fun hstop f => ?_⟩
    have hb := (hp f).stops hstop
    simp only [busyState, Bool.or_eq_false_iff, beq_eq_false_iff_ne] at hb
    obtain ⟨hoff, hawait⟩ := hb
    obtain ⟨hfwd, hrev⟩ := (outputs_off_iff _).mpr hoff
    exact ⟨hfwd, hrev, (hp f).atRest hoff, hawait⟩
  · rintro ⟨ha, hstop⟩
    refine ⟨ha.slots, ha.holdersOnce, ha.suspendedOnce, fun f => ⟨ha.holdersStart f, ha.suspendedStart f, ha.waitingAwait f,
      ha.creditWaitAwait f, ha.awaits f, ha.atRest f, fun h => ?_⟩⟩
    obtain ⟨hfwd, hrev, _, hawait⟩ := hstop h f
    simp [busyState, (outputs_off_iff _).mp ⟨hfwd, hrev⟩, hawait]

/-- A fan the arbiter knows nothing of is in order where it does not ask, and stands still where its output is off. -/
theorem PlaceOk.of_unserved {s : State} {f : Fin 4} (h : Unserved s f) (hc : (s.fan f).creditWait = false)
    (ha : (s.fan f).state ≠ .awaitGrant) (hr : drives (s.fan f).state = false → (s.fan f).reference = 0)
    (hs : s.stop.asserted = true → drives (s.fan f).state = false) : PlaceOk s f where
  holds k := absurd k h.1
  suspends k := absurd k h.2.2
  waits k := absurd (h.2.1.symm.trans k) nofun
  creditWaits k := absurd (hc.symm.trans k) nofun
  awaits k := absurd k ha
  atRest := hr
  stops k := by simp [busyState, hs k, ha]

/-- What a fan's place does not read may change: the state, CREDIT_WAIT and the reference of a fan at rest stay. -/
theorem PlaceOk.of_same {s t : State} {f : Fin 4} (h : PlaceOk s f) (ha : t.arbiter = s.arbiter := by rfl)
    (hst : t.stop.asserted = s.stop.asserted := by rfl) (hs : (t.fan f).state = (s.fan f).state := by simp)
    (hc : (t.fan f).creditWait = (s.fan f).creditWait := by simp)
    (hr : drives (s.fan f).state = false → (t.fan f).reference ≤ (s.fan f).reference := by simp) : PlaceOk t f where
  holds := by rw [ha, hs]; exact h.holds
  suspends := by rw [ha, hs]; exact h.suspends
  waits := by rw [ha, hs, hc]; exact h.waits
  creditWaits := by rw [hc, hs]; exact h.creditWaits
  awaits := by rw [ha, hs, hc]; exact h.awaits
  atRest k := by
    rw [hs] at k
    exact Nat.le_zero.mp ((hr k).trans (h.atRest k).le)
  stops := by rw [hst, hs]; exact h.stops

theorem PlaceOk.notServed {s : State} {f : Fin 4} (h : PlaceOk s f) (hs : (s.fan f).state ≠ .starting)
    (ha : (s.fan f).state ≠ .awaitGrant) : Unserved s f ∧ (s.fan f).creditWait = false :=
  ⟨⟨fun k => hs (h.holds k), Bool.eq_false_iff.mpr fun k => ha (h.waits k).1, fun k => hs (h.suspends k).1⟩,
    Bool.eq_false_iff.mpr fun k => ha (h.creditWaits k)⟩

theorem reportFan_place (f : Fin 4) (c : FanCause) {s : State} (h : PlaceOk s f) : PlaceOk (reportFan f c s) f := h.of_same

theorem reportFanChange_place (b : FanState) (f : Fin 4) (c : FanCause) {s : State} (h : PlaceOk s f) :
    PlaceOk (reportFanChange b f c s) f := by
  unfold reportFanChange
  split
  · exact h
  · split <;> exact reportFan_place f _ h

/-- A fan that gives its place up and does not ask again. -/
theorem PlaceOk.left {s : State} {f : Fin 4} {x : Fan} (hc : x.creditWait = false := by simp [Fan.outputsOff])
    (ha : x.state ≠ .awaitGrant := by exact nofun)
    (hr : drives x.state = false → x.reference = 0 := by exact fun _ => rfl)
    (hs : s.stop.asserted = true → drives x.state = false := by exact fun _ => rfl) :
    PlaceOk ((leaveArbiter f s).withFan f x) f :=
  .of_unserved ((leaveArbiter_unserved f s).of_arbiter rfl) (by simpa using hc) (by simpa using ha) (by simpa using hr)
    fun k => by simpa using hs k

theorem enterCoasting_place (f : Fin 4) (s : State) : PlaceOk (enterCoasting f s) f := .left

theorem trip_place (f : Fin 4) (c : TripCause) (s : State) : PlaceOk (trip f c s) f := .left

/-- A fan that drives does so with STOP released. -/
theorem PlaceOk.notStopped {s : State} {f : Fin 4} (h : PlaceOk s f) (hb : busyState (s.fan f).state = true) :
    s.stop.asserted = false :=
  Bool.eq_false_iff.mpr fun k => absurd (h.stops k) (by simp [hb])

theorem enterStopping_place {f : Fin 4} {s : State} (h : s.stop.asserted = false) : PlaceOk (enterStopping f s) f := by
  unfold enterStopping
  dsimp only
  split
  · exact .left
  · exact .left (hc := by simp) (hr := nofun) (hs := fun k => absurd (h.symm.trans k) nofun)

theorem enterRunning_place {f : Fin 4} {b : Bool} {s : State} (h : s.stop.asserted = false) :
    PlaceOk (enterRunning f b s) f :=
  .left (hc := by simp) (hr := nofun) (hs := fun k => absurd (h.symm.trans k) nofun)

theorem startPhaseTest_place {f : Fin 4} {s : State} (h : PlaceOk s f) : PlaceOk (startPhaseTest f s) f := by
  unfold startPhaseTest
  split
  · next k =>
    simp only [startPhaseOver, Bool.and_eq_true, beq_iff_eq] at k
    obtain ⟨⟨⟨hst, _⟩, _⟩, _⟩ := k
    exact reportFan_place _ _ (enterRunning_place (h.notStopped (by simp [busyState, drives, hst])))
  · exact h

/-- A fan at rest that asks for a grant is put on the waiting list or under CREDIT_WAIT, or trips (R48, R80). -/
theorem enterAwait_place {f : Fin 4} {s : State} (h : Unserved s f) (hc : (s.fan f).creditWait = false)
    (hr : (s.fan f).reference = 0) (hs : s.stop.asserted = false) : PlaceOk (enterAwait f s) f := by
  obtain ⟨hh, hw, hq⟩ := h
  unfold enterAwait
  dsimp only
  split
  · exact trip_place ..
  · split
    · constructor <;> simp_all [drives, busyState]
    · constructor <;> simp_all [drives, busyState]

theorem reapply_place {f : Fin 4} {s : State} (h : PlaceOk s f) : PlaceOk (reapply f s) f := by
  unfold reapply
  split
  · next k =>
    obtain ⟨hoff, _, hp⟩ := k
    obtain ⟨hu, hc⟩ := h.notServed (by simp [hoff]) (by simp [hoff])
    exact enterAwait_place hu hc (h.atRest (by simp [hoff, drives])) (startsPermitted_iff.mp hp).1
  · exact h

/-- A fan in a state without a place, its outputs switched off in another. -/
theorem PlaceOk.outputsOff {s : State} {f : Fin 4} {st : FanState} (h : PlaceOk s f) (hs : (s.fan f).state ≠ .starting)
    (ha : (s.fan f).state ≠ .awaitGrant) (hst : busyState st = false) : PlaceOk (s.withFan f ((s.fan f).outputsOff st)) f := by
  obtain ⟨hu, hc⟩ := h.notServed hs ha
  simp only [busyState, Bool.or_eq_false_iff, beq_eq_false_iff_ne] at hst
  exact .of_unserved (hu.of_arbiter rfl) (by simpa [Fan.outputsOff] using hc) (by simpa [Fan.outputsOff] using hst.2)
    (by simp [Fan.outputsOff]) (by simp [Fan.outputsOff, hst.1])

theorem enterOff_place {f : Fin 4} {s : State} (h : PlaceOk s f) (hs : (s.fan f).state ≠ .starting)
    (ha : (s.fan f).state ≠ .awaitGrant) : PlaceOk (enterOff f s) f :=
  reapply_place (h.outputsOff hs ha rfl)

theorem takeTarget_place {f : Fin 4} {t : Target} {s : State} (h : PlaceOk s f) : PlaceOk (takeTarget f t s) f := by
  have held : PlaceOk (s.withFan f { s.fan f with target := t }) f := h.of_same
  have driving (hb : busyState (s.fan f).state = true) : (s.withFan f { s.fan f with target := t }).stop.asserted = false :=
    h.notStopped hb
  unfold takeTarget
  dsimp only
  split
  · exact reapply_place held
  · split
    · exact .left
    · exact held.of_same
  case h_3 | h_4 =>
    next hst =>
    have := driving (by simp [busyState, drives, hst])
    split
    · exact enterStopping_place this
    · split
      · exact held
      · split
        · exact enterCoasting_place ..
        · exact enterStopping_place this
  · next hst =>
    split
    · obtain ⟨hu, hc⟩ := h.notServed (by simp [hst]) (by simp [hst])
      have := driving (by simp [busyState, drives, hst])
      exact .of_unserved (hu.of_arbiter rfl) (by simpa using hc) (by simp) (by simp [drives])
        fun k => absurd (this.symm.trans k) nofun
    · exact held
  all_goals exact held

/-! ### One fan's event among the others -/

/-- A place depends on the fan and on its memberships alone. -/
theorem PlaceOk.of_memberships {s t : State} {g : Fin 4} (k : PlaceOk s g) (hf : t.fan g = s.fan g)
    (hw : t.arbiter.waiting[g]'g.isLt = s.arbiter.waiting[g]'g.isLt) (hh : g ∈ t.arbiter.holders ↔ g ∈ s.arbiter.holders)
    (hs : g ∈ t.arbiter.suspended ↔ g ∈ s.arbiter.suspended) (hst : t.stop = s.stop) : PlaceOk t g where
  holds := by rw [hf, hh]; exact k.holds
  suspends := by rw [hf, hh, hs]; exact k.suspends
  waits := by rw [hf, hw]; exact k.waits
  creditWaits := by rw [hf]; exact k.creditWaits
  awaits := by rw [hf, hw]; exact k.awaits
  atRest := by rw [hf]; exact k.atRest
  stops := by rw [hf, hst]; exact k.stops

theorem At.place {f g : Fin 4} {s t : State} (h : At f s t) (hg : g ≠ f) (k : PlaceOk s g) : PlaceOk t g :=
  k.of_memberships (h.fans g hg) (h.waiting g hg) (h.holders g hg) (h.suspended g hg) h.frame.stop

theorem At.inOrder {f : Fin 4} {s t : State} (h : At f s t) (hf : PlaceOk s f → PlaceOk t f) (k : InOrder s) : InOrder t where
  slots := by
    rw [h.frame.ctl]
    exact h.fewerHolders.length_le.trans k.slots
  holdersOnce := h.fewerHolders.nodup k.holdersOnce
  suspendedOnce := h.fewerSuspended.nodup k.suspendedOnce
  places g := if hg : g = f then hg ▸ hf (k.places f) else h.place hg (k.places g)

end Sys2Proof.Machine
end

section
/-! The feed arbiter serving (R79, R81 to R85): what one choice does, and that what it is called for is then served. -/

namespace Sys2Proof.Machine

/-! ### One choice -/

theorem grant_at (f : Fin 4) (s : State) : At f (granting f s) (grant f s) := by
  obtain h | h := grant_cases f s <;> rw [h]
  · exact .refl ..
  · exact startPhaseTest_at ..

theorem Mild.of_fan {f : Fin 4} {s t : State} (hf : FanFrame s t) (ho : ∀ g, g ≠ f → t.fan g = s.fan g)
    (h : FanMild (s.fanCfg f) (MayLock s f) (s.fan f) (t.fan f)) : Mild s t :=
  ⟨hf, fun g => if hg : g = f then hg ▸ h else by rw [ho g hg]; exact {}⟩

theorem At.toMild {f : Fin 4} {s t : State} (h : At f s t) : Mild s t := .of_fan h.frame h.fans h.mild

theorem granting_mild (f : Fin 4) (s : State) : Mild s (granting f s) := by
  refine .of_fan (granting_frame f s) (fun g => granting_fan_of_ne s) ?_
  unfold granting
  split
  · simpa [regranted] using ({} : FanMild _ _ (s.fan f) { s.fan f with suspended := false, limitUntested := true })
  · simp only [firstGrant, reportFan_fan, State.withFan_fan_self]
    exact { reference := .inl (Nat.zero_le _), credits := .inl (Nat.sub_le _ _), lockout := nofun }

theorem grant_mild (f : Fin 4) (s : State) : Mild s (grant f s) := (granting_mild f s).trans (grant_at f s).toMild

theorem suspend_mild (f : Fin 4) (s : State) : Mild s (suspend f s) :=
  .of_fan (suspend_frame f s) (fun _ => suspend_fan_of_ne s) (by
    simpa [suspend] using ({} : FanMild _ _ (s.fan f) { s.fan f with suspended := true }))

theorem serveOnce_mild {s t : State} (h : serveOnce s = some t) : Mild s t := by
  obtain ⟨f, _, _, rfl, _⟩ | ⟨f, g, _, _, _, rfl⟩ := serveOnce_cases h
  · exact grant_mild f s
  · exact (suspend_mild g s).trans (grant_mild ..)

theorem serve_mild (s : State) : Mild s (serve s) := serve_rel Mild .refl (fun _ _ _ => .trans) (fun _ _ => serveOnce_mild) s

/-! ### No grant raises a reference (R48, R73, R81) -/

/-- The reference of fan `g` does not rise. -/
def NoRise (g : Fin 4) (s t : State) : Prop := (t.fan g).reference ≤ (s.fan g).reference

theorem At.noRise {f g : Fin 4} {s t : State} (h : At f s t) (hg : g ≠ f) : NoRise g s t := by
  unfold NoRise
  rw [h.fans g hg]

theorem startPhaseTest_noRise (f g : Fin 4) (s : State) : NoRise g s (startPhaseTest f s) := by
  by_cases hg : g = f
  · subst hg
    unfold startPhaseTest NoRise
    split
    · simp [enterRunning]
    · exact Nat.le_refl _
  · exact (startPhaseTest_at f s).noRise hg

theorem granting_noRise (f g : Fin 4) (s : State) : NoRise g s (granting f s) := by
  unfold NoRise
  by_cases hg : g = f
  · subst hg
    unfold granting
    split
    · simp [regranted]
    · simp [firstGrant]
  · rw [granting_fan_of_ne s hg]

theorem grant_noRise (f g : Fin 4) (s : State) : NoRise g s (grant f s) := by
  obtain h | h := grant_cases f s <;> rw [h]
  · exact granting_noRise f g s
  · exact (startPhaseTest_noRise f g _).trans (granting_noRise f g s)

theorem suspend_noRise (f g : Fin 4) (s : State) : NoRise g s (suspend f s) := by
  unfold NoRise
  by_cases hg : g = f
  · subst hg
    simp [suspend]
  · rw [suspend_fan_of_ne s hg]

theorem serve_noRise (g : Fin 4) (s : State) : NoRise g s (serve s) := by
  refine serve_rel (NoRise g) (fun _ => Nat.le_refl _) (fun _ _ _ a b => Nat.le_trans b a) (fun s t h => ?_) s
  obtain ⟨f, _, _, rfl, _⟩ | ⟨f, k, _, _, _, rfl⟩ := serveOnce_cases h
  · exact grant_noRise f g s
  · exact (grant_noRise f g _).trans (suspend_noRise k g s)

/-! ### Fans the arbiter knows nothing of -/

/-- Fan `g`, where the arbiter knows nothing of it, is left alone. -/
def LeavesAlone (g : Fin 4) (s t : State) : Prop := Unserved s g → t.fan g = s.fan g ∧ Unserved t g

theorem LeavesAlone.refl (g : Fin 4) (s : State) : LeavesAlone g s s := fun h => ⟨rfl, h⟩

theorem LeavesAlone.trans {g : Fin 4} {s t u : State} (a : LeavesAlone g s t) (b : LeavesAlone g t u) :
    LeavesAlone g s u := fun h => by
  obtain ⟨hf, hu⟩ := a h
  obtain ⟨hf', hu'⟩ := b hu
  exact ⟨hf'.trans hf, hu'⟩

theorem At.leavesAlone {f g : Fin 4} {s t : State} (h : At f s t) (hg : g ≠ f) : LeavesAlone g s t := fun ⟨hh, hw, hs⟩ =>
  ⟨h.fans g hg, fun k => hh ((h.holders g hg).mp k), (h.waiting g hg).trans hw, fun k => hs ((h.suspended g hg).mp k)⟩

theorem granting_leavesAlone {f g : Fin 4} {s : State} (k : g ≠ f) : LeavesAlone g s (granting f s) := fun h => by
  have hn : (f : Nat) ≠ g := fun e => k (Fin.ext e.symm)
  obtain ⟨hh, hw, hs⟩ := h
  refine ⟨granting_fan_of_ne s k, ?_⟩
  simp only [Fin.getElem_fin] at hw
  simp [Unserved, granting_arbiter, Arbiter.granted, hh, hs, k, hw, hn]

theorem grant_leavesAlone {f g : Fin 4} {s : State} (k : g ≠ f) : LeavesAlone g s (grant f s) :=
  (granting_leavesAlone k).trans ((grant_at f s).leavesAlone k)

theorem suspend_leavesAlone {f g : Fin 4} {s : State} (k : g ≠ f) : LeavesAlone g s (suspend f s) := fun h => by
  refine ⟨suspend_fan_of_ne s k, ?_⟩
  obtain ⟨hh, hw, hs⟩ := h
  simp only [Fin.getElem_fin] at hw
  simp [Unserved, suspend, hh, hs, k, hw]

theorem serveOnce_leavesAlone (g : Fin 4) {s t : State} (h : serveOnce s = some t) : LeavesAlone g s t := fun hu => by
  obtain ⟨f, hf, _, rfl, _⟩ | ⟨f, k, hf, hk, _, rfl⟩ := serveOnce_cases h
  · exact grant_leavesAlone (hu.ne_of_listed hf) hu
  · have hgh : g ≠ k := fun e => hu.1 (e ▸ List.mem_of_getLast? hk)
    exact (suspend_leavesAlone hgh).trans (grant_leavesAlone (hu.ne_of_listed (urgentRequest_eq_some.mp hf).2.2)) hu

theorem serve_leavesAlone (g : Fin 4) (s : State) : LeavesAlone g s (serve s) :=
  serve_rel (LeavesAlone g) (.refl g) (fun _ _ _ => .trans) (fun _ _ => serveOnce_leavesAlone g) s

/-! ### The order of the arbiter -/

theorem granting_inOrder {f : Fin 4} {s : State} (h : InOrder s) (hf : listed s f = true)
    (hfree : s.arbiter.holders.length < s.ctl.slotCount) : InOrder (granting f s) := by
  have place := h.places f
  have held : f ∉ s.arbiter.holders := fun k => by
    obtain hw | hs := listed_iff.mp hf
    · exact absurd (place.holds k) (by simp [(place.waits hw).1])
    · exact (place.suspends hs).2 k
  have hstop : s.stop.asserted = false := place.notStopped (by
    obtain hw | hs := listed_iff.mp hf
    · simp [busyState, (place.waits hw).1]
    · simp [busyState, drives, (place.suspends hs).1])
  have calm : ((granting f s).fan f).creditWait = false ∧ ((granting f s).fan f).state = .starting := by
    unfold granting
    split
    · next hs =>
      have hst := (place.suspends (List.contains_iff_mem.mp hs)).1
      have hc : (s.fan f).creditWait = false := Bool.eq_false_iff.mpr fun k => by simp [place.creditWaits k] at hst
      simp [regranted, hst, hc]
    · next hs =>
      have hw := (listed_iff.mp hf).resolve_right (by simpa using hs)
      simp [firstGrant, Fan.drawCredit, (place.waits hw).2]
  refine ⟨?_, ?_, ?_, fun g => ?_⟩
  · rw [granting_arbiter, (granting_frame f s).ctl]
    simpa [Arbiter.granted] using hfree
  · rw [granting_arbiter]
    exact List.nodup_append.mpr ⟨h.holdersOnce, by simp, by
      rintro a ha b hb rfl
      exact held (List.mem_singleton.mp hb ▸ ha)⟩
  · rw [granting_arbiter]
    exact h.suspendedOnce.filter _
  · by_cases hg : g = f
    · subst hg
      obtain ⟨hc, hst⟩ := calm
      constructor <;> simp [granting_arbiter, Arbiter.granted, hst, hc, drives, (granting_frame _ s).stop, hstop]
    · have hn : (f : Nat) ≠ g := fun e => hg (Fin.ext e.symm)
      exact (h.places g).of_memberships (granting_fan_of_ne s hg) (by simp [granting_arbiter, Arbiter.granted, hn])
        (by simp [granting_arbiter, Arbiter.granted, hg]) (by simp [granting_arbiter, Arbiter.granted, hg])
        (granting_frame f s).stop

theorem grant_inOrder {f : Fin 4} {s : State} (h : InOrder s) (hf : listed s f = true)
    (hfree : s.arbiter.holders.length < s.ctl.slotCount) : InOrder (grant f s) := by
  have hg := granting_inOrder h hf hfree
  obtain e | e := grant_cases f s <;> rw [e]
  · exact hg
  · exact (startPhaseTest_at f _).inOrder startPhaseTest_place hg

theorem suspend_inOrder {f : Fin 4} {s : State} (h : InOrder s) (hf : f ∈ s.arbiter.holders) : InOrder (suspend f s) := by
  have hst := (h.places f).holds hf
  have hstop := (h.places f).notStopped (by simp [busyState, drives, hst])
  have hc : (s.fan f).creditWait = false := Bool.eq_false_iff.mpr fun k => by simp [(h.places f).creditWaits k] at hst
  have hw : s.arbiter.waiting[f]'f.isLt = false := Bool.eq_false_iff.mpr fun k => by simp [((h.places f).waits k).1] at hst
  refine ⟨List.filter_sublist.length_le.trans h.slots, h.holdersOnce.filter _, ?_, fun g => ?_⟩
  · exact List.nodup_append.mpr ⟨h.suspendedOnce, by simp, by
      rintro a ha b hb rfl
      exact ((h.places f).suspends (List.mem_singleton.mp hb ▸ ha)).2 hf⟩
  · by_cases hg : g = f
    · subst hg
      simp only [Fin.getElem_fin] at hw
      constructor <;> simp [suspend, hst, hc, hw, drives, hstop]
    · exact (h.places g).of_memberships (suspend_fan_of_ne s hg) rfl (by simp [suspend, hg]) (by simp [suspend, hg]) rfl

theorem serveOnce_inOrder {s t : State} (h : serveOnce s = some t) (k : InOrder s) : InOrder t := by
  obtain ⟨f, hf, hfree, rfl, _⟩ | ⟨f, g, hf, hg, _, rfl⟩ := serveOnce_cases h
  · exact grant_inOrder k hf (by simpa [slotFree] using hfree)
  · have hm := List.mem_of_getLast? hg
    exact grant_inOrder (suspend_inOrder k hm) (suspend_listed (urgentRequest_eq_some.mp hf).2.2)
      ((suspend_frees hm).trans_le k.slots)

theorem serve_inOrder {s : State} (h : InOrder s) : InOrder (serve s) :=
  serve_rel (fun s t => InOrder s → InOrder t) (fun _ => id) (fun _ _ _ a b => b ∘ a) (fun _ _ => serveOnce_inOrder) s h

/-! ### Nothing is left unserved (R81, R83) -/

/-- The fans that ask for a grant. -/
def requests (s : State) : Finset (Fin 4) := Finset.univ.filter fun f => listed s f = true

theorem grant_listed {f g : Fin 4} {s : State} (h : listed (grant f s) g = true) : listed s g = true ∧ g ≠ f := by
  have hne : listed (granting f s) g = true := by
    obtain e | e := grant_cases f s <;> rw [e] at h
    · exact h
    · by_cases hg : g = f
      · subst hg
        unfold startPhaseTest at h
        split at h
        · exact absurd h (by
            rw [not_listed_of_unserved]
            · nofun
            · exact (leaveArbiter_unserved ..).of_arbiter rfl)
        · exact h
      · have k := startPhaseTest_at f (granting f s)
        rw [listed_iff] at h ⊢
        rwa [k.waiting g hg, k.suspended g hg] at h
  rw [listed_iff, granting_arbiter] at hne
  by_cases hg : g = f
  · subst hg
    simp [Arbiter.granted] at hne
  · have hn : (f : Nat) ≠ g := fun e => hg (Fin.ext e.symm)
    exact ⟨listed_iff.mpr (by simpa [Arbiter.granted, hn, hg] using hne), hg⟩

theorem grant_requests {f : Fin 4} {s : State} (h : listed s f = true) : (requests (grant f s)).card < (requests s).card := by
  refine Finset.card_lt_card (Finset.ssubset_iff_subset_ne.mpr ⟨fun g hg => ?_, fun e => ?_⟩)
  · simp only [requests, Finset.mem_filter, Finset.mem_univ, true_and] at hg ⊢
    exact (grant_listed hg).1
  · have : f ∈ requests (grant f s) := e ▸ (by simp [requests, h] : f ∈ requests s)
    simp only [requests, Finset.mem_filter, Finset.mem_univ, true_and] at this
    exact (grant_listed this).2 rfl

theorem grant_urgency (f : Fin 4) (s : State) : (grant f s).arbiter.urgency = s.arbiter.urgency := by
  rw [(grant_at f s).urgency, granting_arbiter]
  rfl

/-- Once no urgent request stands, none comes by a grant. -/
theorem grant_notUrgent {f : Fin 4} {s : State} (h : ∀ g, urgentRequest s = some g → g = f) : urgentRequest (grant f s) = none := by
  rw [urgentRequest_eq_none, grant_urgency, (grant_frame f s).ctl]
  refine fun hu g hp => Bool.eq_false_iff.mpr fun k => ?_
  obtain ⟨hl, hne⟩ := grant_listed k
  exact hne (h g (urgentRequest_eq_some.mpr ⟨hu, hp, hl⟩))

theorem serveFor_done {n : Nat} {s : State} (hu : urgentRequest s = none) (hn : (requests s).card ≤ n) :
    serveOnce (serveFor n s) = none := by
  induction n generalizing s with
  | zero =>
    have none_listed (f : Fin 4) : listed s f = false := by
      have : f ∉ requests s := by simp [Finset.card_eq_zero.mp (Nat.le_zero.mp hn)]
      simpa [requests] using this
    refine serveOnce_of_noRequest (s := s) ⟨fun f => ?_, ?_⟩
    · exact Bool.eq_false_iff.mpr fun k => absurd (none_listed f) (by rw [listed_iff.mpr (.inl k)]; nofun)
    · exact List.eq_nil_iff_forall_not_mem.mpr fun f k =>
        absurd (none_listed f) (by rw [listed_iff.mpr (.inr k)]; nofun)
  | succ n ih =>
    unfold serveFor
    split
    · next t h =>
      obtain ⟨f, hf, _, rfl, hone⟩ | ⟨f, g, hf, _⟩ := serveOnce_cases h
      · refine ih (grant_notUrgent hone) ?_
        have := grant_requests hf
        omega
      · simp [hu] at hf
    · next h => exact h

theorem serve_done (s : State) : serveOnce (serve s) = none := by
  have few (t : State) : (requests t).card ≤ 7 := (Finset.card_le_univ _).trans (by simp)
  unfold serve serveFor
  split
  · next t h =>
    obtain ⟨f, _, _, rfl, hone⟩ | ⟨f, g, hf, _, _, rfl⟩ := serveOnce_cases h
    · exact serveFor_done (grant_notUrgent hone) (few _)
    · refine serveFor_done (grant_notUrgent fun k hk => ?_) (few _)
      obtain ⟨_, hp, _⟩ := urgentRequest_eq_some.mp hk
      obtain ⟨_, hp', _⟩ := urgentRequest_eq_some.mp hf
      exact Option.some_inj.mp (hp.symm.trans hp')
  · next h => exact h

/-- With a slot to give, an arbiter that finds nothing more to do has served every request it can. -/
theorem servedOk_of_done {s : State} (hs : 1 ≤ s.ctl.slotCount) (h : serveOnce s = none) : ServedOk s := by
  unfold serveOnce at h
  split at h
  · split at h
    · cases h
    · next hfree =>
      have : s.arbiter.holders = [] := by simpa using h
      simp [slotFree, this] at hfree
      omega
  · next hu =>
    refine ⟨fun hfree => ?_, fun k f hp => ?_⟩
    · have : slotFree s = true := by simpa [slotFree] using hfree
      rw [if_pos this, Option.map_eq_none_iff] at h
      exact nextRequest_eq_none h
    · have := urgentRequest_eq_none.mp hu k f hp
      simpa [listed] using this

theorem serve_served {s : State} (hs : 1 ≤ s.ctl.slotCount) : ServedOk (serve s) :=
  servedOk_of_done (by rwa [(serve_frame s).ctl]) (serve_done s)

end Sys2Proof.Machine
end

section
/-! The events of chapters 3 to 5 at one fan: each is a change at that fan, with the arbiter serving behind it where a slot or a
request came free. -/

namespace Sys2Proof.Machine

/-! ### Events at one fan -/

theorem ServedOk.of_same {s t : State} (h : ServedOk s) (ha : t.arbiter = s.arbiter := by rfl)
    (hc : t.ctl = s.ctl := by rfl) : ServedOk t where
  slotsUsed := by
    unfold NoRequest
    rw [ha, hc]
    exact h.slotsUsed
  urgentServed := by rw [ha, hc]; exact h.urgentServed

/-- A whole event at fan `f`: mild at every fan, the order of the arbiter kept with no request left unserved, no other reference
raised, and nothing done to a fan that the arbiter knows nothing of. -/
structure FanEvent (f : Fin 4) (s t : State) : Prop where
  mild : Mild s t
  orders : InOrder s → InOrder t
  served : InOrder s → 1 ≤ s.ctl.slotCount → ServedOk s → ServedOk t
  lower : ∀ g, g ≠ f → NoRise g s t
  alone : ∀ g, g ≠ f → LeavesAlone g s t

theorem FanEvent.refl (f : Fin 4) (s : State) : FanEvent f s s :=
  ⟨.refl s, id, fun _ _ => id, fun _ _ => Nat.le_refl _, fun g _ => .refl g s⟩

theorem FanEvent.trans {f : Fin 4} {s t u : State} (a : FanEvent f s t) (b : FanEvent f t u) : FanEvent f s u where
  mild := a.mild.trans b.mild
  orders := b.orders ∘ a.orders
  served ho hc hs := b.served (a.orders ho) (by rwa [a.mild.frame.ctl]) (a.served ho hc hs)
  lower g hg := (b.lower g hg).trans (a.lower g hg)
  alone g hg := (a.alone g hg).trans (b.alone g hg)

/-- A change at the fan that the arbiter takes no part in. -/
theorem FanEvent.still {f : Fin 4} {s t : State} (h : At f s t) (hp : PlaceOk s f → PlaceOk t f)
    (ha : t.arbiter = s.arbiter := by rfl) : FanEvent f s t where
  mild := h.toMild
  orders := h.inOrder hp
  served _ _ k := k.of_same ha h.frame.ctl
  lower _ hg := h.noRise hg
  alone _ hg := h.leavesAlone hg

/-- A change at the fan, and the requests that then wait served. -/
theorem FanEvent.serve {f : Fin 4} {s u : State} (h : At f s u) (hp : PlaceOk s f → PlaceOk u f) : FanEvent f s (serve u) where
  mild := h.toMild.trans (serve_mild u)
  orders k := serve_inOrder (h.inOrder hp k)
  served _ hc _ := serve_served (by rwa [h.frame.ctl])
  lower _ hg := (serve_noRise _ _).trans (h.noRise hg)
  alone _ hg := (h.leavesAlone hg).trans (serve_leavesAlone _ _)

/-- A fan written in its state, with nothing that its place reads changed. -/
theorem FanEvent.withFan {f : Fin 4} {s : State} {x : Fan}
    (h : FanMild (s.fanCfg f) (MayLock s f) (s.fan f) x := by exact {}) (hs : x.state = (s.fan f).state := by rfl)
    (hc : x.creditWait = (s.fan f).creditWait := by rfl)
    (hr : drives (s.fan f).state = false → x.reference ≤ (s.fan f).reference := by exact fun _ => Nat.le_refl _) :
    FanEvent f s (s.withFan f x) :=
  .still (.withFan h) fun k => k.of_same (hs := by simpa using hs) (hc := by simpa using hc) (hr := by simpa using hr)

theorem FanEvent.report (f : Fin 4) (u : Nat) (r : ReportData) (s : State) : FanEvent f s (report u r s) :=
  .still (.report ..) fun k => k.of_same

theorem FanEvent.nextChoice (f : Fin 4) (s : State) : FanEvent f s s.nextChoice := .still (.nextChoice ..) fun k => k.of_same

/-- A change at the fan with its report, and the requests that then wait served: the shape of most events (R60, R81). -/
theorem FanEvent.reported {f : Fin 4} {s u : State} (b : FanState) (c : FanCause) (h : At f s u)
    (hp : PlaceOk s f → PlaceOk u f) : FanEvent f s (Machine.serve (reportFanChange b f c u)) :=
  .serve (h.trans (reportFanChange_at ..)) fun k => reportFanChange_place b f c (hp k)

/-! ### Leaving COASTING and TRIPPED (R54, R58) -/

theorem leaveCoasting_event {f : Fin 4} {s : State} (h : (s.fan f).state = .coasting) : FanEvent f s (leaveCoasting f s) :=
  .reported _ _ (enterOff_at f s) fun k => enterOff_place k (by simp [h]) (by simp [h])

theorem leaveTripped_event {f : Fin 4} {s : State} (h : (s.fan f).state = .tripped) : FanEvent f s (leaveTripped f s) := by
  unfold leaveTripped
  split
  · exact .reported _ _ (enterOff_at f s) fun k => enterOff_place k (by simp [h]) (by simp [h])
  · next k =>
    have outside : MayLock s f := .inl (by
      have : s.incident ≠ true := fun e => k (.inr e)
      simpa [State.incident] using this)
    refine .still ((At.withFan { lockout := fun _ => .inr outside }).trans (reportFan_at ..)) fun p => ?_
    obtain ⟨hu, hc⟩ := p.notServed (by simp [h]) (by simp [h])
    exact reportFan_place _ _ (.of_unserved (hu.of_arbiter rfl) (by simpa using hc) (by simp)
      (by simpa using fun _ => p.atRest (by simp [h, drives])) (by simp [drives]))

theorem coastTest_event (f : Fin 4) (s : State) : FanEvent f s (coastTest f s) := by
  unfold coastTest
  split
  · split
    · next h => exact leaveCoasting_event h
    · next h =>
      split
      · exact .refl f s
      · exact leaveTripped_event h
    · exact .refl f s
  · exact .refl f s

theorem coastConditionsMet_event (f : Fin 4) (s : State) : FanEvent f s (coastConditionsMet f s) := by
  unfold coastConditionsMet
  split
  · exact FanEvent.trans .withFan (coastTest_event ..)
  · exact FanEvent.trans .withFan (coastTest_event ..)
  · exact .refl f s

/-! ### The FAULT input and supervision (R42, R74 to R76) -/

theorem faultInputChange_event (f : Fin 4) (asserted : Bool) (s : State) : FanEvent f s (faultInputChange f asserted s) := by
  unfold faultInputChange
  refine (FanEvent.withFan (x := { s.fan f with faultInput := asserted })).trans ?_
  dsimp only
  split
  · split
    · exact .reported _ _ (trip_at ..) fun _ => trip_place ..
    · exact .refl ..
  · split
    · exact coastTest_event ..
    · exact .refl ..

theorem startLimitExpires_event {f : Fin 4} {s : State} (h : (s.fan f).state = .starting) :
    FanEvent f s (startLimitExpires f s) := by
  unfold startLimitExpires
  split
  · exact .serve ((enterRunning_at ..).trans (reportFan_at ..)) fun k =>
      reportFan_place _ _ (enterRunning_place (k.notStopped (by simp [h, busyState, drives])))
  · exact .reported _ _ (trip_at ..) fun _ => trip_place ..

theorem startLimitExpiry_event (f : Fin 4) (s : State) : FanEvent f s (startLimitExpiry f s) := by
  unfold startLimitExpiry
  split
  · next h => exact startLimitExpires_event (startLimitReached_starting h)
  · exact .refl f s

theorem startLimitWritten_event (f : Fin 4) (s : State) : FanEvent f s (startLimitWritten f s) :=
  FanEvent.trans .withFan (startLimitExpiry_event ..)

theorem verifyWindowExpiry_event (f : Fin 4) (s : State) : FanEvent f s (verifyWindowExpiry f s) := by
  unfold verifyWindowExpiry
  split
  · split
    · split
      · exact .refl f s
      · exact (FanEvent.report f _ _ s).trans .withFan
    · exact .reported _ _ (trip_at ..) fun _ => trip_place ..
  · exact .refl f s

/-! ### The start phase and the ramps (R52, R53, R73, R75) -/

theorem testStartPhase_event (f : Fin 4) (s : State) : FanEvent f s (testStartPhase f s) :=
  .serve (startPhaseTest_at ..) startPhaseTest_place

/-- The reference of a driving fan one step toward its target, or toward 0. -/
theorem stepReference_event {f : Fin 4} {aim : Nat} {s : State} (h : drives (s.fan f).state = true)
    (ha : aim ≤ (s.fan f).target.speed * 10) : FanEvent f s (stepReference f aim s) :=
  .withFan (h := { reference := (rampStep_le ..).imp_right (Nat.le_trans · ha) })
    (hr := fun k => absurd (h.symm.trans k) nofun)

theorem rampStarting_event {f : Fin 4} {s : State} (h : (s.fan f).state = .starting) : FanEvent f s (rampStarting f s) := by
  have stepped := stepReference_event (s := s) (by simp [h, drives]) (Nat.le_refl ((s.fan f).target.speed * 10))
  have advanced : FanEvent f s (advanceStartTimer f (stepReference f ((s.fan f).target.speed * 10) s)) :=
    stepped.trans .withFan
  unfold rampStarting
  dsimp only
  split
  · split
    · split
      · exact (stepped.trans (.nextChoice ..)).trans (testStartPhase_event ..)
      · refine (advanced.trans (.nextChoice ..)).trans (startLimitExpires_event ?_)
        simp [advanceStartTimer, stepReference, State.nextChoice_fan, h]
    · exact stepped.trans (testStartPhase_event ..)
  · exact advanced

theorem rampInstant_event (f : Fin 4) (s : State) : FanEvent f s (rampInstant f s) := by
  unfold rampInstant
  split
  case h_1 h =>
    split
    · exact rampStarting_event h
    · exact .refl f s
  case h_2 h => exact (stepReference_event (by simp [h, drives]) (Nat.le_refl _)).trans .withFan
  case h_3 h =>
    have stepped := stepReference_event (s := s) (f := f) (by simp [h, drives]) (Nat.zero_le _)
    dsimp only
    split
    · exact stepped.trans (.reported _ _ (enterCoasting_at ..) fun _ => enterCoasting_place ..)
    · exact stepped
  all_goals exact .refl f s

/-! ### Credits (R88 to R90) -/

theorem Fan.regenerate_mild (cfg : FanSettings) (locks : Prop) (x : Fan) : FanMild cfg locks x (x.regenerate cfg) where
  credits := .inr (Nat.min_le_left _ _)

theorem joinOnCredit_event (f : Fin 4) (s : State) : FanEvent f s (joinOnCredit f s) := by
  unfold joinOnCredit
  split
  · next h =>
    refine .serve ((At.withWaiting f true s).trans (.withFan {})) fun k => ?_
    have ha := k.creditWaits h
    have hn : f ∉ s.arbiter.holders := fun m => by simp [k.holds m] at ha
    have hs : f ∉ s.arbiter.suspended := fun m => by simp [(k.suspends m).1] at ha
    have hr := k.atRest (by simp [ha, drives])
    have hstop := k.notStopped (by simp [ha, busyState])
    constructor <;> simp [ha, hn, hs, hr, hstop]
  · exact .refl f s

theorem creditRegeneration_event (f : Fin 4) (s : State) : FanEvent f s (creditRegeneration f s) := by
  unfold creditRegeneration
  split
  · exact (FanEvent.withFan (h := Fan.regenerate_mild ..)).trans (joinOnCredit_event ..)
  · exact .refl f s

/-! ### The tach input (chapter 4) -/

theorem FanEvent.withTach (f : Fin 4) (t : Tach) (s : State) : FanEvent f s (s.withTach f t) := .withFan

theorem handRpm_event (f : Fin 4) (s : State) : FanEvent f s (handRpm f s) := by
  have standstill : FanEvent f s
      (if (s.fan f).tach.rpm = 0 then s else s.withFan f { s.fan f with standstill := 0 }) := by
    split
    · exact .refl f s
    · exact .withFan
  unfold handRpm
  refine standstill.trans ?_
  dsimp only
  generalize (if (s.fan f).tach.rpm = 0 then s else _ : State) = u
  split
  · exact testStartPhase_event ..
  · split
    · exact .withFan
    · exact .refl ..
  · exact .refl ..

theorem tachExpires_event (f : Fin 4) (s : State) : FanEvent f s (tachExpires f s) :=
  (FanEvent.withTach f _ s).trans (handRpm_event ..)

theorem tachTimeout_event (f : Fin 4) (s : State) : FanEvent f s (tachTimeout f s) := by
  unfold tachTimeout
  split
  · exact tachExpires_event f s
  · exact .refl f s

theorem prescaledEdge_event (f : Fin 4) (s : State) : FanEvent f s (prescaledEdge f s) := by
  unfold prescaledEdge
  dsimp only
  split
  · split
    · exact .withTach ..
    · exact (FanEvent.withTach f _ s).trans (handRpm_event ..)
  · exact .withTach ..

theorem takeTachSettings_event (f : Fin 4) (s : State) : FanEvent f s (takeTachSettings f s) := by
  unfold takeTachSettings
  dsimp only
  split
  · exact (FanEvent.withTach f _ s).trans (handRpm_event ..)
  · exact .withTach ..

/-- The timeout of the tach input, where it is taken, and the time that then runs (R69). -/
theorem tachRuns_event (f : Fin 4) (us : Nat) (expires : Bool) (s : State) :
    FanEvent f s (let s := if expires then tachExpires f s else s
      s.withTach f ((s.fan f).tach.run us)) := by
  refine FanEvent.trans ?_ (.withTach ..)
  split
  · exact tachExpires_event f s
  · exact .refl f s

theorem takeEdge_event (f : Fin 4) (s : State) : FanEvent f s (takeEdge f s) := by
  unfold takeEdge
  refine (FanEvent.withTach f { (s.fan f).tach with level := (s.fan f).tach.pin, disagreement := 0 } s).trans ?_
  dsimp only
  split
  · exact takeTachSettings_event ..
  · split
    · unfold countEdge
      dsimp only
      split
      · exact prescaledEdge_event ..
      · exact .withTach ..
    · exact .refl ..

theorem tachTakesSamples_event (f : Fin 4) (n : Nat) (s : State) : FanEvent f s (tachTakesSamples f n s) := by
  unfold tachTakesSamples
  dsimp only
  split
  · exact .refl f s
  · split
    · exact (FanEvent.withTach f _ s).trans (tachRuns_event ..)
    · split
      · exact (FanEvent.withTach f _ s).trans (tachRuns_event ..)
      · exact ((tachRuns_event f _ _ s).trans (takeEdge_event ..)).trans (tachRuns_event ..)

theorem acceptedEdge_event (f : Fin 4) (high : Bool) (samples : Nat) (s : State) :
    FanEvent f s (acceptedEdge f high samples s) :=
  (FanEvent.withTach f _ s).trans (tachTakesSamples_event ..)

/-! ### Lockouts, credit waits, STOP and SET_ACTIVE (R59, R63, R90, R141, R150, R151) -/

theorem clearLockout_event {f : Fin 4} {s : State} (h : (s.fan f).state = .lockedOut) : FanEvent f s (clearLockout f s) :=
  FanEvent.trans .withFan (.reported _ _ (enterOff_at ..) fun k =>
    enterOff_place k (by simp [h]) (by simp [h]))

theorem clearIfEntered_event (f : Fin 4) (s : State) : FanEvent f s (clearIfEntered f s) := by
  unfold clearIfEntered
  split
  · next h => exact clearLockout_event h.1
  · exact .refl f s

theorem waitForCredit_event (f : Fin 4) (s : State) : FanEvent f s (waitForCredit f s) := by
  unfold waitForCredit
  split
  · next h =>
    have at_f := (At.withWaiting f false s).trans
      (.withFan (x := { s.fan f with creditWait := true }) {})
    refine ⟨at_f.toMild, at_f.inOrder fun k => ?_, fun _ _ k => ⟨fun hfree => ?_, fun hu g hp => ?_⟩,
      fun _ hg => at_f.noRise hg, fun _ hg => at_f.leavesAlone hg⟩
    · have ha := (k.waits h.1).1
      have hn : f ∉ s.arbiter.holders := fun m => by simp [k.holds m] at ha
      have hs : f ∉ s.arbiter.suspended := fun m => by simp [(k.suspends m).1] at ha
      have hr := k.atRest (by simp [ha, drives])
      have hstop := k.notStopped (by simp [ha, busyState])
      constructor <;> simp [ha, hn, hs, hr, hstop]
    · exact absurd ((k.slotsUsed hfree).1 f) (by rw [h.1]; nofun)
    · obtain ⟨hw, hs⟩ := k.urgentServed hu g hp
      refine ⟨?_, hs⟩
      by_cases hg : g = f
      · subst hg
        simp
      · exact (at_f.waiting g hg).trans hw
  · exact .refl f s

theorem restartVerify_event (f : Fin 4) (s : State) : FanEvent f s (restartVerify f s) := by
  unfold restartVerify
  split
  · exact .withFan
  · exact .refl f s

theorem resumeFan_event (c : FanCause) (f : Fin 4) (s : State) : FanEvent f s (resumeFan c f s) := by
  unfold resumeFan
  split
  · exact .reported _ _ (reapply_at ..) reapply_place
  · exact .refl f s

theorem fanOff_event (f : Fin 4) (s : State) : FanEvent f s (fanOff f s) := by
  unfold fanOff
  split
  · exact .refl f s
  · exact .serve (leaveAndWrite_at (.outputsOff nofun)) fun _ => .left

theorem fanOn_event (f : Fin 4) (s : State) : FanEvent f s (fanOn f s) := by
  have kept {x : Fan} (h : (s.fan f).state = .inactive) (hb : busyState x.state = false)
      (hc : x.creditWait = (s.fan f).creditWait := by rfl) (hr : x.reference = (s.fan f).reference := by rfl)
      (p : PlaceOk s f) : PlaceOk (s.withFan f x) f := by
    obtain ⟨hu, hcw⟩ := p.notServed (by simp [h]) (by simp [h])
    simp only [busyState, Bool.or_eq_false_iff, beq_eq_false_iff_ne] at hb
    exact .of_unserved (hu.of_arbiter rfl) (by simpa [hc] using hcw) (by simpa using hb.2)
      (by simpa [hr] using fun _ => p.atRest (by simp [h, drives])) (by simp [hb.1])
  unfold fanOn
  dsimp only
  split
  · next h =>
    split
    · split
      · exact .still (.withFan { lockout := nofun }) (kept h rfl)
      · next k =>
        have mayLock : MayLock s f := by
          simp only [Bool.and_eq_true, State.incident, beq_iff_eq] at k
          by_cases hm : s.modes.mode = .incident
          · exact .inr (by simpa [hm] using k)
          · exact .inl hm
        exact .still (.withFan { lockout := fun _ => .inr mayLock }) (kept h rfl)
    · exact .still (.withFan { lockout := nofun }) (kept h rfl)
  · exact .refl f s

/-! ### Parameter writes at a fan (R54, R73, R89, R90) -/

theorem pulsesChanged_event (f : Fin 4) (s : State) : FanEvent f s (pulsesChanged f s) := by
  unfold pulsesChanged
  refine FanEvent.trans ?_ ((testStartPhase_event f _).trans (coastTest_event ..))
  split
  · exact .withFan
  · exact .refl f s

theorem Fan.intervalTested_mild (cfg : FanSettings) (locks : Prop) (x : Fan) : FanMild cfg locks x (x.intervalTested cfg) := by
  unfold Fan.intervalTested
  split
  · exact Fan.regenerate_mild ..
  · exact {}

theorem intervalChanged_event (f : Fin 4) (s : State) : FanEvent f s (intervalChanged f s) := by
  have same : ((s.fan f).intervalTested (s.fanCfg f)).state = (s.fan f).state ∧
      ((s.fan f).intervalTested (s.fanCfg f)).creditWait = (s.fan f).creditWait ∧
      ((s.fan f).intervalTested (s.fanCfg f)).reference = (s.fan f).reference := by
    unfold Fan.intervalTested
    split <;> exact ⟨rfl, rfl, rfl⟩
  obtain ⟨hs, hc, hr⟩ := same
  unfold intervalChanged
  split
  · exact (FanEvent.withFan (h := Fan.intervalTested_mild ..) hs hc fun _ => hr.le).trans (joinOnCredit_event ..)
  · exact .refl f s

end Sys2Proof.Machine
end

section
/-! What every event below the mode controller keeps: the queue, the credits, the composed targets, the relief cap, the order of the
arbiter and its service; the mode targets and setpoints stand, and no lockout comes to an entered fan. -/

namespace Sys2Proof.Machine

/-! ### Composed targets (R46, R126) -/

/-- Fan `f` is at the target composed from its mode target and the doors. -/
def ComposedAt (s : State) (f : Fin 4) : Prop := (s.fan f).target = composedTarget s f

/-! ### What every event keeps under its settings -/

/-- The event keeps the settings, and with them the queue's arrivals, the credits, each composed target, the relief cap, the order
of the arbiter and its service. -/
structure Sound (s t : State) : Prop where
  store : t.store = s.store
  queued : Queued s.reports t.reports
  credits : CreditsOk s → CreditsOk t
  composed : ∀ f, ComposedAt s f → ComposedAt t f
  cap : (∀ f, s.ctl.pressFan = some f → ComposedAt s f) → CapOk s → CapOk t
  orders : InOrder s → InOrder t
  served : InOrder s → 1 ≤ s.ctl.slotCount → ServedOk s → ServedOk t

theorem Sound.refl (s : State) : Sound s s := ⟨rfl, .refl _, id, fun _ => id, fun _ => id, id, fun _ _ => id⟩

theorem Sound.trans {s t u : State} (a : Sound s t) (b : Sound t u) : Sound s u where
  store := b.store.trans a.store
  queued := a.queued.trans b.queued
  credits := b.credits ∘ a.credits
  composed f := b.composed f ∘ a.composed f
  cap hf hc := b.cap (fun f hp => a.composed f (hf f (by rwa [← ctl_of_store a.store]))) (a.cap hf hc)
  orders := b.orders ∘ a.orders
  served ho hc hs := b.served (a.orders ho) (by rwa [ctl_of_store a.store]) (a.served ho hc hs)

theorem PlaceOk.of_fans {s t : State} (hf : ∀ f, t.fan f = s.fan f) (ha : t.arbiter = s.arbiter) (hs : t.stop = s.stop)
    {f : Fin 4} (h : PlaceOk s f) : PlaceOk t f :=
  h.of_memberships (hf f) (by rw [ha]) (by rw [ha]) (by rw [ha]) hs

theorem InOrder.of_fans {s t : State} (h : InOrder s) (hf : ∀ f, t.fan f = s.fan f) (ha : t.arbiter = s.arbiter)
    (hs : t.stop = s.stop) (hc : t.ctl = s.ctl) : InOrder t where
  slots := by rw [ha, hc]; exact h.slots
  holdersOnce := by rw [ha]; exact h.holdersOnce
  suspendedOnce := by rw [ha]; exact h.suspendedOnce
  places f := (h.places f).of_fans hf ha hs

/-- An event that leaves the fans, the arbiter, the doors' states and STOP alone. -/
theorem Sound.of_same {s t : State} (hf : ∀ f, t.fan f = s.fan f := by exact fun _ => rfl)
    (ha : t.arbiter = s.arbiter := by rfl) (hp : t.store = s.store := by rfl)
    (hd : ∀ d, (t.door d).state = (s.door d).state := by exact fun _ => rfl) (hs : t.stop = s.stop := by rfl)
    (hq : Queued s.reports t.reports := by exact .refl _) : Sound s t where
  store := hp
  queued := hq
  credits h f := by rw [hf, fanCfg_of_store hp]; exact h f
  composed f h := by
    unfold ComposedAt
    rw [composedTarget_congr (by rw [hf]) hd (by rw [ctl_of_store hp]) (by rw [fanCfg_of_store hp])
      (by rw [fanCfg_of_store hp]), hf]
    exact h
  cap _ h f := by
    rw [ctl_of_store hp, someDoorRelieving_congr hd, hf, fanCfg_of_store hp]
    exact h f
  orders h := h.of_fans hf ha hs (ctl_of_store hp)
  served _ _ h := h.of_same ha (ctl_of_store hp)

/-- Mild changes at the fans keep the credits within their maximum (R88). -/
theorem Mild.creditsOk {s t : State} (h : Mild s t) (k : CreditsOk s) : CreditsOk t := fun f => by
  rw [h.frame.fanCfg]
  exact (h.fans f).credits.elim (·.trans (k f)) id

theorem Mild.composedTarget {s t : State} (h : Mild s t) (f : Fin 4) : composedTarget t f = composedTarget s f :=
  composedTarget_congr (h.fans f).modeTarget (fun d => by rw [h.frame.door]) (by rw [h.frame.ctl]) (by rw [h.frame.fanCfg])
    (by rw [h.frame.fanCfg])

theorem Mild.composedAt {s t : State} (h : Mild s t) {f : Fin 4} (k : ComposedAt s f) : ComposedAt t f := by
  unfold ComposedAt
  rw [(h.fans f).target, h.composedTarget]
  exact k

/-- Mild changes keep the cap: the reference of a fan rises toward its target only, which is itself capped (R126, R127). -/
theorem Mild.capOk {s t : State} (h : Mild s t) (hf : ∀ f, s.ctl.pressFan = some f → ComposedAt s f) (k : CapOk s) :
    CapOk t := fun f hp hr => by
  rw [h.frame.ctl] at hp
  rw [someDoorRelieving_congr (s := s) fun d => by rw [h.frame.door]] at hr
  rw [h.frame.fanCfg]
  have held := k f hp hr
  have rises := (h.fans f).reference
  have capped := composedTarget_le hp hr
  rw [(h.fans f).target, hf f hp] at rises
  exact rises.elim (·.trans held) (·.trans (Nat.mul_le_mul_right 10 capped))

/-- Mild changes behind which the arbiter is in order, and has served. -/
theorem Sound.of_mild {s t : State} (h : Mild s t) (ho : InOrder s → InOrder t)
    (hs : InOrder s → 1 ≤ s.ctl.slotCount → ServedOk s → ServedOk t) : Sound s t :=
  ⟨h.frame.store, h.frame.queued, h.creditsOk, fun _ => h.composedAt, h.capOk, ho, hs⟩

theorem Sound.of_event {f : Fin 4} {s t : State} (h : FanEvent f s t) : Sound s t := .of_mild h.mild h.orders h.served

theorem Sound.takeInAnyOrder {α : Type} {act : α → State → State} (each : ∀ x s, Sound s (act x s)) (l : List α)
    (s : State) : Sound s (takeInAnyOrder l act s) :=
  takeInAnyOrder_rel Sound .refl (fun _ _ _ => .trans) (fun _ => .of_same) act each l s

theorem Sound.takeEach {α : Type} {act : α → State → State} (each : ∀ x s, Sound s (act x s)) (l : List α)
    (s : State) : Sound s (takeEach l act s) :=
  takeEach_rel Sound .refl (fun _ _ _ => .trans) act each l s

/-! ### What the events below the mode controller keep besides -/

/-- As `Sound`; the mode targets and the setpoints stand, and no lockout comes to a fan that the engaged record enters. -/
structure Steady (s t : State) : Prop extends Sound s t where
  frame : DoorFrame s t
  wishes : ∀ f, (t.fan f).modeTarget = (s.fan f).modeTarget ∧ (t.fan f).setpoint = (s.fan f).setpoint
  lockouts : ∀ f, (t.fan f).state = .lockedOut → (s.fan f).state = .lockedOut ∨ MayLock s f

theorem DoorFrame.mayLock {s t : State} (h : DoorFrame s t) (f : Fin 4) : MayLock t f = MayLock s f := by
  simp only [MayLock, engagedEntry, h.modes]

theorem Steady.refl (s : State) : Steady s s := ⟨.refl s, .refl s, fun _ => ⟨rfl, rfl⟩, fun _ => .inl⟩

theorem Steady.trans {s t u : State} (a : Steady s t) (b : Steady t u) : Steady s u where
  toSound := a.toSound.trans b.toSound
  frame := a.frame.trans b.frame
  wishes f := ⟨(b.wishes f).1.trans (a.wishes f).1, (b.wishes f).2.trans (a.wishes f).2⟩
  lockouts f h := (b.lockouts f h).elim (a.lockouts f) fun k => .inr (by rwa [a.frame.mayLock] at k)

theorem Steady.of_event {f : Fin 4} {s t : State} (h : FanEvent f s t) : Steady s t where
  toSound := .of_event h
  frame := h.mild.frame.doorFrame
  wishes g := ⟨(h.mild.fans g).modeTarget, (h.mild.fans g).setpoint⟩
  lockouts g := (h.mild.fans g).lockout

/-- An event that leaves the fans, the arbiter and the doors' states alone. -/
theorem Steady.of_same {s t : State} (h : DoorFrame s t) (hf : ∀ f, t.fan f = s.fan f := by exact fun _ => rfl)
    (ha : t.arbiter = s.arbiter := by rfl) (hd : ∀ d, (t.door d).state = (s.door d).state := by exact fun _ => rfl) :
    Steady s t where
  toSound := .of_same hf ha h.store hd (by rw [h.same]) h.queued
  frame := h
  wishes f := by rw [hf]; exact ⟨rfl, rfl⟩
  lockouts f := by rw [hf]; exact .inl

theorem Steady.report (u : Nat) (r : ReportData) (s : State) : Steady s (report u r s) :=
  .of_same (FanFrame.report u r s).doorFrame

theorem Steady.nextChoice (s : State) : Steady s s.nextChoice := .of_same (FanFrame.nextChoice s).doorFrame

theorem Steady.takeInAnyOrder {α : Type} {act : α → State → State} (each : ∀ x s, Steady s (act x s)) (l : List α)
    (s : State) : Steady s (takeInAnyOrder l act s) :=
  takeInAnyOrder_rel Steady .refl (fun _ _ _ => .trans) .nextChoice act each l s

/-! ### A new target (R47 to R51, R53, R55, R56) -/

/-- The fan holds target `t`, nothing done about it yet. -/
def withTarget (f : Fin 4) (t : Target) (s : State) : State := s.withFan f { s.fan f with target := t }

theorem withTarget_place {f : Fin 4} {t : Target} {s : State} : PlaceOk (withTarget f t s) f ↔ PlaceOk s f := by
  refine ⟨fun h => ?_, fun h => ?_⟩
  · have : s = (withTarget f t s).withFan f { (withTarget f t s).fan f with target := (s.fan f).target } := by
      simp only [withTarget, State.withFan_withFan, State.withFan_fan_self]
      exact (s.withFan_fan f).symm
    rw [this]
    exact h.of_same
  · exact h.of_same (hs := by simp [withTarget]) (hc := by simp [withTarget]) (hr := by simp [withTarget])

/-- A target change is an event at a fan that already holds the new target. -/
theorem targetChange_event (f : Fin 4) (t : Target) (s : State) : FanEvent f (withTarget f t s) (targetChange f t s) :=
  .serve (((takeTarget_at f t s).trans (reportFanChange_at ..)).trans (startPhaseTest_at ..)) fun k =>
    startPhaseTest_place (reportFanChange_place _ _ _ (takeTarget_place (withTarget_place.mp k)))

theorem recompose_event (f : Fin 4) (s : State) : FanEvent f (withTarget f (composedTarget s f) s) (recompose f s) := by
  unfold recompose
  split
  · next h =>
    have : withTarget f (composedTarget s f) s = s := by
      rw [withTarget, h]
      exact s.withFan_fan f
    rw [this]
    exact .refl f s
  · exact targetChange_event ..

theorem withTarget_fan_of_ne {f g : Fin 4} {t : Target} (s : State) (h : g ≠ f) : (withTarget f t s).fan g = s.fan g :=
  s.withFan_fan_of_ne _ h

@[simp] theorem withTarget_fan (f : Fin 4) (t : Target) (s : State) :
    (withTarget f t s).fan f = { s.fan f with target := t } := by simp [withTarget]

theorem withTarget_composed {f g : Fin 4} {t : Target} {s : State} : composedTarget (withTarget f t s) g = composedTarget s g := by
  refine composedTarget_congr ?_ (fun _ => rfl) Iff.rfl rfl rfl
  by_cases h : g = f
  · subst h
    simp
  · rw [withTarget_fan_of_ne s h]

/-- A fan written with other wishes: its target, its mode target or its setpoint, and nothing else. -/
structure SameFan (x y : Fan) : Prop where
  state : y.state = x.state := by rfl
  creditWait : y.creditWait = x.creditWait := by rfl
  reference : y.reference = x.reference := by rfl
  credits : y.credits = x.credits := by rfl

theorem withFan_same {f : Fin 4} {x : Fan} {s : State} (h : SameFan (s.fan f) x) (g : Fin 4) :
    SameFan (s.fan g) ((s.withFan f x).fan g) := by
  by_cases hg : g = f
  · subst hg
    simpa using h
  · rw [s.withFan_fan_of_ne x hg]
    exact {}

theorem withFan_capOk {f : Fin 4} {x : Fan} {s : State} (h : SameFan (s.fan f) x) (k : CapOk s) : CapOk (s.withFan f x) :=
  fun g hp hr => (withFan_same h g).reference.trans_le (k g hp hr)

theorem withFan_composed_of_ne {f g : Fin 4} {x : Fan} {s : State} (hg : g ≠ f) (h : ComposedAt s g) :
    ComposedAt (s.withFan f x) g := by
  have same : composedTarget (s.withFan f x) g = composedTarget s g :=
    composedTarget_congr (by rw [s.withFan_fan_of_ne x hg]) (fun _ => rfl) Iff.rfl rfl rfl
  unfold ComposedAt
  rw [same, s.withFan_fan_of_ne x hg]
  exact h

/-- A fan written with other wishes, whose target is then the composed one where it was so. -/
theorem withFan_sound {f : Fin 4} {x : Fan} {s : State} (h : SameFan (s.fan f) x)
    (hc : ComposedAt s f → ComposedAt (s.withFan f x) f) : Sound s (s.withFan f x) where
  store := rfl
  queued := .refl _
  credits k g := (withFan_same h g).credits.trans_le (k g)
  composed g k := by
    by_cases hg : g = f
    · subst hg
      exact hc k
    · exact withFan_composed_of_ne hg k
  cap _ := withFan_capOk h
  orders k := ⟨k.slots, k.holdersOnce, k.suspendedOnce, fun g =>
    (k.places g).of_same rfl rfl (withFan_same h g).state (withFan_same h g).creditWait
      fun _ => (withFan_same h g).reference.le⟩
  served _ _ k := k.of_same

theorem withTarget_composedAt (f : Fin 4) (s : State) : ComposedAt (withTarget f (composedTarget s f) s) f := by
  unfold ComposedAt
  rw [withTarget_composed, withTarget_fan]

theorem withTarget_capOk {f : Fin 4} {t : Target} {s : State} (h : CapOk s) : CapOk (withTarget f t s) :=
  withFan_capOk (s := s) {} h

/-- The fan written with its composed target, and nothing else. -/
theorem withTarget_steady (f : Fin 4) (s : State) : Steady s (withTarget f (composedTarget s f) s) where
  toSound := withFan_sound {} fun _ => withTarget_composedAt f s
  frame := (FanFrame.withFan ..).doorFrame
  wishes g := by
    by_cases hg : g = f
    · subst hg
      simp
    · rw [withTarget_fan_of_ne s hg]
      exact ⟨rfl, rfl⟩
  lockouts g h := .inl ((withFan_same (s := s) {} g).state.symm.trans h)

theorem recompose_steady (f : Fin 4) (s : State) : Steady s (recompose f s) :=
  (withTarget_steady f s).trans (.of_event (recompose_event f s))

/-- A recomposed fan is at its composed target, whatever it held before (R47, R126). -/
theorem recompose_composed (f : Fin 4) (s : State) : ComposedAt (recompose f s) f :=
  (recompose_event f s).mild.composedAt (withTarget_composedAt f s)

/-! ### Urgency and a changed door (R83, R114, R126, R127) -/

theorem evaluateUrgency_inOrder {s : State} (h : InOrder s) : InOrder (evaluateUrgency s) :=
  ⟨h.slots, h.holdersOnce, h.suspendedOnce, fun f => (h.places f).of_memberships rfl rfl .rfl .rfl rfl⟩

theorem evaluateUrgency_mild (s : State) : Mild s (evaluateUrgency s) := ⟨evaluateUrgency_frame s, fun _ => {}⟩

theorem Steady.of_mild {s t : State} (h : Mild s t) (ho : InOrder s → InOrder t)
    (hs : InOrder s → 1 ≤ s.ctl.slotCount → ServedOk s → ServedOk t) : Steady s t where
  toSound := .of_mild h ho hs
  frame := h.frame.doorFrame
  wishes g := ⟨(h.fans g).modeTarget, (h.fans g).setpoint⟩
  lockouts g := (h.fans g).lockout

theorem reviewUrgency_steady (s : State) : Steady s (reviewUrgency s) :=
  .of_mild ((evaluateUrgency_mild s).trans (serve_mild _)) (fun k => serve_inOrder (evaluateUrgency_inOrder k))
    fun _ h _ => serve_served h

theorem clampReference_event (f : Fin 4) (s : State) : FanEvent f s (clampReference f s) :=
  .withFan (h := { reference := .inl (Nat.min_le_left _ _) }) (hr := fun _ => Nat.min_le_left _ _)

/-- The pressurisation fan clamped, where `b` says so. -/
def clampIf (b : Bool) (f : Fin 4) (s : State) : State := if b then clampReference f s else s

theorem clampIf_event (b : Bool) (f : Fin 4) (s : State) : FanEvent f s (clampIf b f s) := by
  unfold clampIf
  split
  · exact clampReference_event f s
  · exact .refl f s

theorem fanTakesDoorChange_eq {b : Bool} {f : Fin 4} {s : State} (h : s.ctl.pressFan = some f) :
    fanTakesDoorChange b s = recompose f (clampIf (!b && someDoorRelieving s) f s) := by
  simp [fanTakesDoorChange, clampIf, h]

/-- A fan clamped is under the cap. -/
theorem clampIf_capOk {b : Bool} {f : Fin 4} {s : State} (hp : s.ctl.pressFan = some f)
    (h : b = false → someDoorRelieving s = true → (s.fan f).reference ≤ (s.fanCfg f).relief * 10) : CapOk (clampIf b f s) := by
  intro g hg hr
  have frame := (clampIf_event b f s).mild.frame
  rw [frame.ctl, hp] at hg
  cases hg
  rw [someDoorRelieving_congr (s := s) fun d => by rw [frame.door]] at hr
  rw [frame.fanCfg]
  cases b
  · exact h rfl hr
  · simp [clampIf, clampReference]

/-- What the arbiter and the pressurisation fan make of a changed door: the fans were under the cap with the doors as they were
before. -/
structure TakesDoor (wasRelieving : Bool) (u t : State) : Prop where
  frame : FanFrame u t
  wishes : ∀ f, (t.fan f).modeTarget = (u.fan f).modeTarget ∧ (t.fan f).setpoint = (u.fan f).setpoint
  lockouts : ∀ f, (t.fan f).state = .lockedOut → (u.fan f).state = .lockedOut ∨ MayLock u f
  credits : CreditsOk u → CreditsOk t
  orders : InOrder u → InOrder t
  pressed : ∀ f, u.ctl.pressFan = some f → ComposedAt t f
  others : ∀ f, u.ctl.pressFan ≠ some f → ComposedAt u f → ComposedAt t f
  cap : (∀ f, u.ctl.pressFan = some f → wasRelieving = true → (u.fan f).reference ≤ (u.fanCfg f).relief * 10) → CapOk t

theorem fanTakesDoorChange_takes (b : Bool) (u : State) : TakesDoor b u (fanTakesDoorChange b u) := by
  cases hp : u.ctl.pressFan with
  | none =>
    have : fanTakesDoorChange b u = u := by simp [fanTakesDoorChange, hp]
    rw [this]
    exact ⟨.refl u, fun _ => ⟨rfl, rfl⟩, fun _ => .inl, id, id, fun f h => by simp [hp] at h, fun _ _ => id,
      fun _ f h => by simp [hp] at h⟩
  | some f =>
    rw [fanTakesDoorChange_eq hp]
    have clamped := Steady.of_event (clampIf_event (!b && someDoorRelieving u) f u)
    have frame := (clampIf_event (!b && someDoorRelieving u) f u).mild.frame
    have whole := clamped.trans (recompose_steady f _)
    refine ⟨frame.trans (recompose_frame ..), whole.wishes, whole.lockouts, whole.credits, whole.orders, fun g hg => ?_,
      fun g _ => whole.composed g, fun h => ?_⟩
    · cases hp.symm.trans hg
      exact recompose_composed ..
    · have capped : CapOk (clampIf (!b && someDoorRelieving u) f u) := clampIf_capOk hp fun hb hr => by
        simp only [Bool.and_eq_false_iff, Bool.not_eq_false', hr, Bool.true_eq_false, or_false] at hb
        exact h f hp hb
      refine (recompose_event f _).mild.capOk (fun g hg => ?_) (withTarget_capOk capped)
      have : g = f := Option.some_inj.mp (hg.symm.trans (frame.ctl ▸ hp))
      subst this
      exact withTarget_composedAt ..

/-- A door written, and the change handed to the pressurisation fan and the feed arbiter (R83, R114, R126, R127). -/
theorem handDoorChange_steady (d : Fin 2) (x : Door) (s : State) :
    Steady s (handDoorChange (someDoorRelieving s) (s.withDoor d x)) := by
  have takes := fanTakesDoorChange_takes (someDoorRelieving s) (evaluateUrgency (s.withDoor d x))
  have served := serve_mild (fanTakesDoorChange (someDoorRelieving s) (evaluateUrgency (s.withDoor d x)))
  have frame : DoorFrame s (handDoorChange (someDoorRelieving s) (s.withDoor d x)) :=
    (OneDoor.withDoor d x s).frame.trans (handDoorChange_frame ..).doorFrame
  have ordered : InOrder s → InOrder (evaluateUrgency (s.withDoor d x)) := fun k =>
    evaluateUrgency_inOrder (k.of_fans (fun _ => rfl) rfl rfl rfl)
  exact {
    store := frame.store
    queued := frame.queued
    credits := fun k => served.creditsOk (takes.credits k)
    composed := fun f k => served.composedAt (by
      by_cases hp : s.ctl.pressFan = some f
      · exact takes.pressed f hp
      · exact takes.others f hp (by
          unfold ComposedAt at k ⊢
          rw [composedTarget_of_ne hp] at k
          rw [composedTarget_of_ne (s := evaluateUrgency (s.withDoor d x)) hp]
          exact k))
    cap := fun _ k => served.capOk (fun f hp => takes.pressed f (by rwa [takes.frame.ctl] at hp))
      (takes.cap fun f hp hr => k f hp hr)
    orders := fun k => serve_inOrder (takes.orders (ordered k))
    served := fun _ k _ => serve_served (by rwa [takes.frame.ctl])
    frame := frame
    wishes := fun f => ⟨(served.fans f).modeTarget.trans (takes.wishes f).1,
      (served.fans f).setpoint.trans (takes.wishes f).2⟩
    lockouts := fun f k => ((served.fans f).lockout k).elim (takes.lockouts f) fun k => .inr (by
      rwa [takes.frame.mayLock] at k) }

end Sys2Proof.Machine
end

section
/-! Every event at a door reaches the fans through entries into a state and evaluations of urgency alone, and so is steady. -/

namespace Sys2Proof.Machine

/-! ### Doors written in their state -/

theorem Steady.withDoor (d : Fin 2) {x : Door} {s : State} (h : x.state = (s.door d).state := by rfl) :
    Steady s (s.withDoor d x) :=
  .of_same (OneDoor.withDoor d x s).frame (hd := fun e => by
    by_cases he : e = d
    · subst he
      rw [State.withDoor_door_self]
      exact h
    · rw [s.withDoor_door_of_ne x he])

/-- What an event at a door consists of: doors written in their state, entries into a state with the change handed to the fans and
the arbiter (R114), evaluations of urgency (R83), reports, and choices of an order. -/
inductive DoorSteps : State → State → Prop
  | refl (s : State) : DoorSteps s s
  | written (d : Fin 2) {x : Door} {s : State} (h : x.state = (s.door d).state) : DoorSteps s (s.withDoor d x)
  | entered (d : Fin 2) (x : Door) (s : State) : DoorSteps s (handDoorChange (someDoorRelieving s) (s.withDoor d x))
  | urgency (s : State) : DoorSteps s (reviewUrgency s)
  | report (u : Nat) (r : ReportData) (s : State) : DoorSteps s (report u r s)
  | nextChoice (s : State) : DoorSteps s s.nextChoice
  | trans {s t u : State} (a : DoorSteps s t) (b : DoorSteps t u) : DoorSteps s u

theorem DoorSteps.steady {s t : State} (h : DoorSteps s t) : Steady s t := by
  induction h with
  | refl s => exact .refl s
  | written d h => exact .withDoor d h
  | entered d x s => exact handDoorChange_steady d x s
  | urgency s => exact reviewUrgency_steady s
  | report u r s => exact .report u r s
  | nextChoice s => exact .nextChoice s
  | trans _ _ a b => exact a.trans b

theorem DoorSteps.withDoor (d : Fin 2) {x : Door} {s : State} (h : x.state = (s.door d).state := by rfl) :
    DoorSteps s (s.withDoor d x) := .written d h

theorem DoorSteps.takeInAnyOrder {α : Type} {act : α → State → State} (each : ∀ x s, DoorSteps s (act x s)) (l : List α)
    (s : State) : DoorSteps s (takeInAnyOrder l act s) :=
  takeInAnyOrder_rel DoorSteps .refl (fun _ _ _ => .trans) .nextChoice act each l s

theorem enterDoor_steps (d : Fin 2) (st : DoorState) (s : State) : DoorSteps s (enterDoor d st s) := .entered d _ s

/-- An event behind a door written in its state. -/
theorem DoorSteps.after {d : Fin 2} {x : Door} {s t : State} (h : DoorSteps (s.withDoor d x) t)
    (hx : x.state = (s.door d).state := by rfl) : DoorSteps s t := (DoorSteps.withDoor d hx).trans h

theorem updateCreep_steps (d : Fin 2) (s : State) : DoorSteps s (updateCreep d s) := .withDoor d

theorem setCurrent_steps (d : Fin 2) (t : Travel) (s : State) : DoorSteps s (setCurrent d t s) := .withDoor d

theorem clearSlot_steps (d : Fin 2) (s : State) : DoorSteps s (clearSlot d s) := .withDoor d

theorem raiseCurrent_steps (d : Fin 2) (s : State) : DoorSteps s (raiseCurrent d s) := .withDoor d

theorem doneReport_steps (d : Fin 2) (t : Travel) (e : Termination) (s : State) : DoorSteps s (doneReport d t e s) :=
  (DoorSteps.withDoor d).trans (.report ..)

theorem placeInSlot_steps (d : Fin 2) (t : Travel) (s : State) : DoorSteps s (placeInSlot d t s) := by
  unfold placeInSlot
  dsimp only
  split
  · exact (DoorSteps.report ..).trans (.withDoor d)
  · exact .withDoor d

theorem startReopen_steps (d : Fin 2) (b : Bool) (s : State) : DoorSteps s (startReopen d b s) := by
  unfold startReopen
  dsimp only
  split
  · exact .withDoor d
  · exact .refl s

/-! ### Travels start (R96, R97, R119, R120) -/

theorem relock_steps (d : Fin 2) (s : State) : DoorSteps s (relock d s) := by
  unfold relock
  split
  · exact enterDoor_steps ..
  · exact .refl s

theorem runMotor_steps (d : Fin 2) (dir : DoorDir) (s : State) : DoorSteps s (runMotor d dir s) :=
  ((DoorSteps.withDoor d).trans (enterDoor_steps ..)).trans (updateCreep_steps ..)

theorem endRelief_steps (d : Fin 2) (o : ReliefOutcome) (s : State) : DoorSteps s (endRelief d o s) := by
  unfold endRelief
  dsimp only
  exact ((DoorSteps.withDoor d).trans (.report ..)).trans (runMotor_steps ..)

theorem enterRelieving_steps (d : Fin 2) (c : Fin 8) (s : State) : DoorSteps s (enterRelieving d c s) := by
  unfold enterRelieving
  dsimp only
  split
  · exact ((DoorSteps.withDoor d).trans (enterDoor_steps ..)).trans (endRelief_steps ..)
  · exact (DoorSteps.withDoor d).trans (enterDoor_steps ..)

theorem pressureCheck_steps (d : Fin 2) (s : State) : DoorSteps s (pressureCheck d s) := by
  unfold pressureCheck
  split
  · exact runMotor_steps ..
  · split
    · exact runMotor_steps ..
    · exact enterRelieving_steps ..

theorem beginTravel_steps (d : Fin 2) (t : Travel) (s : State) : DoorSteps s (beginTravel d t s) := by
  unfold beginTravel
  dsimp only
  split
  · exact ((placeInSlot_steps ..).trans (setCurrent_steps ..)).trans (runMotor_steps ..)
  · refine (setCurrent_steps d ((s.door d).raised t) s).trans ?_
    split
    · exact (DoorSteps.withDoor d).trans (enterDoor_steps ..)
    · split
      · exact pressureCheck_steps ..
      · exact runMotor_steps ..

/-! ### Travels end (R99, R100, R103) -/

theorem reverse_steps (d : Fin 2) (t : Travel) (s : State) : DoorSteps s (reverse d t s) := by
  unfold reverse
  dsimp only
  split
  · exact ((DoorSteps.withDoor d).trans (setCurrent_steps ..)).trans (runMotor_steps ..)
  · exact ((DoorSteps.withDoor d).trans (setCurrent_steps ..)).trans (runMotor_steps ..)

theorem considerSlot_steps (d : Fin 2) (s : State) : DoorSteps s (considerSlot d s) := by
  unfold considerSlot
  split
  · exact (clearSlot_steps d s).trans (beginTravel_steps ..)
  · exact relock_steps ..

theorem finishTravel_steps (d : Fin 2) (e : Termination) (s : State) : DoorSteps s (finishTravel d e s) := by
  unfold finishTravel
  split
  · exact .refl s
  · next t _ =>
    dsimp only
    refine (doneReport_steps d t e s).trans ?_
    split
    · exact (clearSlot_steps ..).trans (enterDoor_steps ..)
    · split
      · exact reverse_steps ..
      · exact (enterDoor_steps ..).trans (considerSlot_steps ..)

theorem testsFor_steps (n : Nat) (edge obstructed : Bool) (d : Fin 2) (s : State) :
    DoorSteps s (testsFor n edge obstructed d s) := by
  induction n generalizing edge obstructed s with
  | zero => exact startReopen_steps ..
  | succ n ih =>
    unfold testsFor
    split
    · exact startReopen_steps ..
    · refine DoorSteps.trans ?_ (ih _ _ _)
      split
      · exact (clearSlot_steps ..).trans (finishTravel_steps ..)
      · exact finishTravel_steps ..

theorem testTravel_steps (d : Fin 2) (s : State) : DoorSteps s (testTravel d s) := testsFor_steps ..
theorem testStart_steps (d : Fin 2) (s : State) : DoorSteps s (testStart d s) := testsFor_steps ..

theorem startTravel_steps (d : Fin 2) (t : Travel) (s : State) : DoorSteps s (startTravel d t s) :=
  (beginTravel_steps d t s).trans (testStart_steps ..)

theorem endTravel_steps (d : Fin 2) (e : Termination) (s : State) : DoorSteps s (endTravel d e s) :=
  (finishTravel_steps d e s).trans (testStart_steps ..)

/-! ### Escape requests (R98, R105, R106) -/

theorem abortToEscape_steps (d : Fin 2) (s : State) : DoorSteps s (abortToEscape d s) := by
  unfold abortToEscape
  dsimp only
  split
  · exact ((DoorSteps.report ..).trans (clearSlot_steps ..)).trans (setCurrent_steps ..)
  · exact (clearSlot_steps ..).trans (setCurrent_steps ..)

theorem escapeActs_steps (d : Fin 2) (s : State) : DoorSteps s (escapeActs d s) := by
  unfold escapeActs
  split
  case h_1 | h_2 | h_3 | h_4 | h_5 => exact startTravel_steps ..
  · exact ((abortToEscape_steps ..).trans (runMotor_steps ..)).trans (testStart_steps ..)
  · split
    · exact abortToEscape_steps ..
    · exact raiseCurrent_steps ..
  · exact raiseCurrent_steps ..
  · exact raiseCurrent_steps ..
  · exact .withDoor d
  · exact .refl s

theorem putSource_steps (d : Fin 2) (b : Bool) (src : EscapeSource) (s : State) : DoorSteps s (putSource d b src s) :=
  (DoorSteps.withDoor d).trans (.urgency _)

theorem arrive_steps (d : Fin 2) (src : EscapeSource) (s : State) : DoorSteps s (arrive d src s) := by
  unfold arrive
  split
  · exact .refl s
  · dsimp only
    have acted := (((DoorSteps.withDoor d (x := { s.door d with escape := (s.door d).escape.put true src })).trans
      (.report (doorUnit d) (.doorRequest src) _)).trans (.urgency _)).trans (escapeActs_steps d _)
    split
    · exact acted.trans (putSource_steps ..)
    · exact acted

theorem removeSource_steps (d : Fin 2) (src : EscapeSource) (s : State) : DoorSteps s (removeSource d src s) := by
  unfold removeSource
  split
  · dsimp only
    split
    · exact putSource_steps ..
    · exact (putSource_steps ..).trans (.withDoor d)
  · exact .refl s

/-! ### Position, end-stops and switch inputs (R95, R99, R102 to R104, R107) -/

theorem leaveClosed_steps (d : Fin 2) (b : Bool) (s : State) : DoorSteps s (leaveClosed d b s) := by
  unfold leaveClosed
  split
  · exact enterDoor_steps ..
  · exact .refl s

theorem positionChanged_steps (d : Fin 2) (b : Bool) (s : State) : DoorSteps s (positionChanged d b s) :=
  ((updateCreep_steps d s).trans (testTravel_steps ..)).trans (leaveClosed_steps ..)

theorem encoderEdge_steps (d : Fin 2) (edge : QuadEdge) (s : State) : DoorSteps s (encoderEdge d edge s) := by
  unfold encoderEdge
  split
  · exact .refl s
  · exact .after (positionChanged_steps d _ _)
  · exact .after (positionChanged_steps d _ _)

theorem endStopAsserted_steps (d : Fin 2) (stop : EndStop) (b : Bool) (s : State) :
    DoorSteps s (endStopAsserted d stop b s) := by
  unfold endStopAsserted
  extract_lets _ u
  have homed : DoorSteps s u := .withDoor d
  refine homed.trans ?_
  split
  · cases stop
    · exact enterDoor_steps ..
    · exact (enterDoor_steps ..).trans (relock_steps ..)
  · exact positionChanged_steps ..

theorem endStopChange_steps (d : Fin 2) (stop : EndStop) (asserted : Bool) (s : State) :
    DoorSteps s (endStopChange d stop asserted s) := by
  unfold endStopChange
  dsimp only
  split
  · exact .refl s
  · refine .after (d := d) (x := { s.door d with inputs := setEndStop (s.door d).inputs asserted stop }) ?_
    split
    · exact endStopAsserted_steps ..
    · exact (testTravel_steps ..).trans (leaveClosed_steps ..)

theorem safetyEdgeChange_steps (d : Fin 2) (asserted : Bool) (s : State) : DoorSteps s (safetyEdgeChange d asserted s) := by
  unfold safetyEdgeChange
  dsimp only
  split
  · exact .refl s
  · exact .after (testStart_steps d _)

theorem presenceChange_steps (d : Fin 2) (asserted : Bool) (s : State) : DoorSteps s (presenceChange d asserted s) := by
  unfold presenceChange
  dsimp only
  split
  · exact .refl s
  · split <;> exact .withDoor d

theorem escapeButtonPress_steps (d : Fin 2) (side : EscapeSide) (pressed : Bool) (s : State) :
    DoorSteps s (escapeButtonPress d side pressed s) := by
  unfold escapeButtonPress
  refine .after (d := d) (x := { s.door d with inputs := setEscapeButton (s.door d).inputs pressed side }) ?_
  split
  · exact arrive_steps ..
  · exact .refl _

theorem serviceButtonPress_steps (d : Fin 2) (dir : DoorDir) (s : State) : DoorSteps s (serviceButtonPress d dir s) := by
  unfold serviceButtonPress
  refine .after (d := d) (x := { s.door d with inputs := setServiceButton (s.door d).inputs true dir }) ?_
  dsimp only
  split
  · exact startTravel_steps ..
  · exact testTravel_steps ..

theorem serviceButtonRelease_steps (d : Fin 2) (dir : DoorDir) (s : State) : DoorSteps s (serviceButtonRelease d dir s) :=
  .after (testTravel_steps d _)

/-! ### Door timers and relief (R98, R99, R104, R107, R121 to R124) -/

theorem settleExpiry_steps (d : Fin 2) (s : State) : DoorSteps s (settleExpiry d s) := by
  unfold settleExpiry
  dsimp only
  split
  · split
    · exact (runMotor_steps ..).trans (testStart_steps ..)
    · exact (pressureCheck_steps ..).trans (testStart_steps ..)
  · exact .refl s

theorem travelTimeout_steps (d : Fin 2) (s : State) : DoorSteps s (travelTimeout d s) := by
  unfold travelTimeout
  dsimp only
  split
  · exact endTravel_steps ..
  · exact .refl s

theorem holdOpenExpiry_steps (d : Fin 2) (s : State) : DoorSteps s (holdOpenExpiry d s) := by
  unfold holdOpenExpiry
  split
  · exact startTravel_steps ..
  · exact .refl s

theorem reopenExpiry_steps (d : Fin 2) (s : State) : DoorSteps s (reopenExpiry d s) := by
  unfold reopenExpiry
  dsimp only
  split
  · refine .after (d := d) (x := { s.door d with reopen := none }) ?_
    split
    · exact escapeActs_steps ..
    · exact .refl _
  · exact .refl s

/-- Relief that ends, with the tests of the opening that follows (R124). -/
theorem reliefEnds_steps (d : Fin 2) (o : ReliefOutcome) (s : State) : DoorSteps s (testStart d (endRelief d o s)) :=
  (endRelief_steps d o s).trans (testStart_steps ..)

theorem reliefEndsAt_steps (d : Fin 2) (limit : Nat) (o : ReliefOutcome) (s : State) : DoorSteps s (reliefEndsAt d limit o s) :=
  .after (reliefEnds_steps d o _)

theorem reliefTimeout_steps (d : Fin 2) (s : State) : DoorSteps s (reliefTimeout d s) := by
  unfold reliefTimeout
  dsimp only
  split
  · split <;> exact reliefEndsAt_steps ..
  · exact .refl s

theorem blindReliefExpiry_steps (d : Fin 2) (s : State) : DoorSteps s (blindReliefExpiry d s) := by
  unfold blindReliefExpiry
  dsimp only
  split
  · exact reliefEndsAt_steps ..
  · exact .refl s

theorem observeRelief_steps (c : Fin 8) (d : Fin 2) (s : State) : DoorSteps s (observeRelief c d s) := by
  unfold observeRelief
  dsimp only
  split
  · refine .after (d := d) (x := { s.door d with
      lastObserved := (s.channel c).average, observedUsable := (s.channel c).usable }) ?_
    split
    · split
      · exact reliefEnds_steps ..
      · exact .refl _
    · split
      · exact reliefEnds_steps ..
      · exact .refl _
  · exact .refl s

/-! ### Door policies, MAINT, requests and parameter writes (R109, R112, R115, R116, R139, R154) -/

theorem applyPolicy_steps (p : DoorPolicy) (d : Fin 2) (s : State) : DoorSteps s (applyPolicy p d s) := by
  unfold applyPolicy
  split
  · exact arrive_steps ..
  · refine .after (d := d) (x := { s.door d with unlockPolicy := true }) ?_
    dsimp only
    split
    · exact enterDoor_steps ..
    · exact .refl _
  · exact .refl s

theorem removePolicy_steps (p : DoorPolicy) (d : Fin 2) (s : State) : DoorSteps s (removePolicy p d s) := by
  unfold removePolicy
  split
  · exact removeSource_steps ..
  · exact .after (relock_steps d _)
  · exact .refl s

theorem changePolicies_steps (old new : Option ScenarioRecord) (s : State) : DoorSteps s (changePolicies old new s) :=
  (DoorSteps.takeInAnyOrder (fun _ _ => removePolicy_steps ..) _ s).trans
    (.takeInAnyOrder (fun _ _ => applyPolicy_steps ..) _ _)

theorem maintAtDoor_steps (d : Fin 2) (s : State) : DoorSteps s (maintAtDoor d s) := by
  unfold maintAtDoor
  extract_lets u
  have cleared : DoorSteps s u := by
    dsimp only [u]
    split
    · exact clearSlot_steps ..
    · exact .refl s
  refine cleared.trans ?_
  split
  · split
    · exact endTravel_steps ..
    · exact endTravel_steps ..
    · exact .refl _
  · exact .refl _

theorem takeTravel_steps (d : Fin 2) (t : Travel) (s : State) : DoorSteps s (takeTravel d t s) := by
  unfold takeTravel
  split
  · exact placeInSlot_steps ..
  · exact startTravel_steps ..

theorem doorOff_steps (d : Fin 2) (s : State) : DoorSteps s (doorOff d s) := by
  unfold doorOff
  split
  · exact .refl s
  · exact .after (enterDoor_steps d _ _)

theorem doorStarts_steps (d : Fin 2) (s : State) : DoorSteps s (doorStarts d s) := by
  unfold doorStarts
  dsimp only
  split
  · exact .after ((enterDoor_steps d _ _).trans (relock_steps ..))
  · exact .after (enterDoor_steps d _ _)

theorem doorOn_steps (d : Fin 2) (s : State) : DoorSteps s (doorOn d s) := by
  unfold doorOn
  split
  · exact (doorStarts_steps d s).trans (.takeInAnyOrder (fun src s => arrive_steps d src s) _ _)
  · exact .refl s

theorem testHoldOpen_steps (d : Fin 2) (s : State) : DoorSteps s (testHoldOpen d s) := by
  unfold testHoldOpen
  split
  · exact holdOpenExpiry_steps ..
  · exact .refl s

theorem lockPolicyChanged_steps (d : Fin 2) (s : State) : DoorSteps s (lockPolicyChanged d s) := by
  unfold lockPolicyChanged
  split
  · exact relock_steps ..
  · split
    · exact enterDoor_steps ..
    · exact .refl s

theorem doorChanged_steps (d : Fin 2) (index : Nat) (s : State) : DoorSteps s (doorChanged d index s) := by
  unfold doorChanged
  split
  · exact testTravel_steps ..
  · exact testTravel_steps ..
  · exact testHoldOpen_steps ..
  · exact .withDoor d
  · exact lockPolicyChanged_steps ..
  · exact .refl s

end Sys2Proof.Machine
end

section
/-! The three invariants on the queue, the credits and the lockouts, the targets and the cap, and the order of the arbiter with its
service, along the events of the mode controller, the demand unit and the hardwired lines (chapters 2, 8 and 9). -/

namespace Sys2Proof.Machine

/-! ### What one step keeps -/

/-- The part of `TargetsOk` that the modes give: the mode target and the start delays (R43, R44, R137, R138). -/
structure WishesOk (s : State) : Prop where
  auto : s.modes.mode = .auto → ∀ f, (s.fan f).modeTarget = autoTarget s f
  manual : s.modes.mode = .manual → ∀ f t, (s.fan f).setpoint = some t → (s.fan f).modeTarget = t
  incident : s.modes.mode = .incident → ∀ f, (s.fan f).modeTarget = incidentTarget s f
  delays : s.modes.mode ≠ .incident → ∀ (f : Fin 4) ms, s.modes.delays[f]'f.isLt ≠ .running ms

theorem TargetsOk.wishes {s : State} (h : TargetsOk s) : WishesOk s := ⟨h.auto, h.manual, h.incident, h.delays⟩

theorem TargetsOk.of_wishes {s : State} (hc : ∀ f, ComposedAt s f) (h : WishesOk s) : TargetsOk s :=
  ⟨hc, h.auto, h.manual, h.incident, h.delays⟩

/-- Whatever copy of the settings comes into force next has a slot to give (R79, R174). -/
structure Slotted (s : State) : Prop where
  working : 1 ≤ s.ctl.slotCount
  stored : s.store.storedValid = true → 1 ≤ s.store.stored.controller.slotCount
  snapshot : ∀ p, s.store.snapshot = some p → 1 ≤ p.controller.slotCount

/-- The event keeps each invariant of O56 to O58. -/
structure Keeps (s t : State) : Prop where
  queue : QueueOk s → QueueOk t
  credits : CreditsOk s → CreditsOk t
  lockouts : LockoutOk s → LockoutOk t
  targets : TargetsOk s → CapOk s → TargetsOk t ∧ CapOk t
  orders : InOrder s → InOrder t
  slotted : Slotted s → Slotted t
  served : Slotted s → InOrder s → ServedOk s → ServedOk t

theorem Keeps.refl (s : State) : Keeps s s := ⟨id, id, id, .intro, id, id, fun _ _ => id⟩

theorem Keeps.trans {s t u : State} (a : Keeps s t) (b : Keeps t u) : Keeps s u where
  queue := b.queue ∘ a.queue
  credits := b.credits ∘ a.credits
  lockouts := b.lockouts ∘ a.lockouts
  targets ht hc := (a.targets ht hc).elim b.targets
  orders := b.orders ∘ a.orders
  slotted := b.slotted ∘ a.slotted
  served hl ho hs := b.served (a.slotted hl) (a.orders ho) (a.served hl ho hs)

/-- An arrival leaves the queue in order: it holds a record then (R170, R171). -/
theorem Queued.queueOk {q q' : ReportQueue} (h : Queued q q')
    (k : q.records.length ≤ 32 ∧ (q.records = [] → q.overflow = false)) :
    q'.records.length ≤ 32 ∧ (q'.records = [] → q'.overflow = false) := by
  obtain ⟨l, rfl⟩ := h
  induction l generalizing q with
  | nil => exact k
  | cons r l ih =>
    refine ih ⟨q.arrive_length r.1 r.2 k.1, fun e => ?_⟩
    dsimp only [ReportQueue.arrive] at e
    split at e
    · simp at e
    · next full =>
      have : q.records = [] := e
      simp [this, Config.queueDepth] at full

theorem Slotted.of_store {s t : State} (h : Slotted s) (k : t.store = s.store) : Slotted t :=
  ⟨by rw [ctl_of_store k]; exact h.working, by rw [k]; exact h.stored, by rw [k]; exact h.snapshot⟩

theorem Keeps.of_sound {s t : State} (h : Sound s t) (hl : LockoutOk s → LockoutOk t)
    (hw : TargetsOk s → WishesOk t) : Keeps s t where
  queue := h.queued.queueOk
  credits := h.credits
  lockouts := hl
  targets ht hc := ⟨.of_wishes (fun f => h.composed f (ht.composed f)) (hw ht), h.cap (fun f _ => ht.composed f) hc⟩
  orders := h.orders
  slotted k := k.of_store h.store
  served k := fun ho => h.served ho k.working

/-- What the mode target and the lockouts of a mode depend on. -/
structure SameModes (s t : State) : Prop where
  mode : t.modes.mode = s.modes.mode := by rfl
  record : t.modes.record = s.modes.record := by rfl
  delays : t.modes.delays = s.modes.delays := by rfl
  frozen : t.modes.frozen = s.modes.frozen := by rfl

theorem SameModes.of_eq {s t : State} (h : t.modes = s.modes) : SameModes s t := by constructor <;> rw [h]

theorem SameModes.mayLock {s t : State} (h : SameModes s t) (f : Fin 4) : MayLock t f = MayLock s f := by
  simp only [MayLock, engagedEntry, h.mode, h.record]

theorem lockoutOk_iff {s : State} : LockoutOk s ↔ ∀ f, (s.fan f).state = .lockedOut → MayLock s f := by
  refine ⟨fun h f hs => ?_, fun h hm f he hs => ?_⟩
  · by_cases hm : s.modes.mode = .incident
    · exact .inr (Bool.eq_false_iff.mpr fun he => h hm f he hs)
    · exact .inl hm
  · obtain k | k := h f hs
    · exact k hm
    · simp [k] at he

theorem SameModes.lockoutOk {s t : State} (h : SameModes s t)
    (k : ∀ f, (t.fan f).state = .lockedOut → (s.fan f).state = .lockedOut ∨ MayLock s f) (hs : LockoutOk s) : LockoutOk t :=
  lockoutOk_iff.mpr fun f hf => by
    rw [h.mayLock]
    exact (k f hf).elim (lockoutOk_iff.mp hs f) id

theorem incidentTarget_congr {s t : State} (h : SameModes s t) {f : Fin 4} (hm : (t.fan f).modeTarget = (s.fan f).modeTarget) :
    incidentTarget t f = incidentTarget s f := by
  simp only [incidentTarget, engagedEntry, h.record, h.delays, h.frozen, hm]

theorem WishesOk.of_same {s t : State} (h : WishesOk s) (hm : SameModes s t) (hp : t.store = s.store)
    (hd : s.modes.mode = .auto → t.demand.stage = s.demand.stage)
    (hf : ∀ f, (t.fan f).modeTarget = (s.fan f).modeTarget ∧ (t.fan f).setpoint = (s.fan f).setpoint) : WishesOk t where
  auto k f := by
    rw [hm.mode] at k
    rw [(hf f).1, autoTarget_congr hp (hd k)]
    exact h.auto k f
  manual k f := by rw [(hf f).1, (hf f).2]; exact h.manual (by rwa [hm.mode] at k) f
  incident k f := by rw [incidentTarget_congr hm (hf f).1, (hf f).1]; exact h.incident (by rwa [hm.mode] at k) f
  delays k := by rw [hm.delays]; exact h.delays (by rwa [hm.mode] at k)

theorem Keeps.of_steady {s t : State} (h : Steady s t) : Keeps s t :=
  .of_sound h.toSound ((SameModes.of_eq h.frame.modes).lockoutOk h.lockouts) fun k =>
    k.wishes.of_same (.of_eq h.frame.modes) h.frame.store (fun _ => by rw [h.frame.demand]) h.wishes

theorem Keeps.of_steps {s t : State} (h : DoorSteps s t) : Keeps s t := .of_steady h.steady

theorem Keeps.of_event {f : Fin 4} {s t : State} (h : FanEvent f s t) : Keeps s t := .of_steady (.of_event h)

/-- An event that leaves the fans, the arbiter, the doors' states, STOP, the demand stage and the settings alone, and of the modes
what the fans read. -/
theorem Keeps.of_same {s t : State} (hm : SameModes s t := by exact {}) (hd : t.demand.stage = s.demand.stage := by rfl)
    (hf : ∀ f, t.fan f = s.fan f := by exact fun _ => rfl) (ha : t.arbiter = s.arbiter := by rfl)
    (hp : t.store = s.store := by rfl) (hx : ∀ d, (t.door d).state = (s.door d).state := by exact fun _ => rfl)
    (hs : t.stop = s.stop := by rfl) (hq : Queued s.reports t.reports := by exact .refl _) : Keeps s t :=
  .of_sound (.of_same hf ha hp hx hs hq) (hm.lockoutOk fun f h => .inl (by rwa [hf] at h)) fun k =>
    k.wishes.of_same hm hp (fun _ => hd) fun f => by rw [hf]; exact ⟨rfl, rfl⟩

theorem Keeps.report (u : Nat) (r : ReportData) (s : State) : Keeps s (report u r s) := .of_steady (.report u r s)

theorem Keeps.takeInAnyOrder {α : Type} {act : α → State → State} (each : ∀ x s, Keeps s (act x s)) (l : List α)
    (s : State) : Keeps s (takeInAnyOrder l act s) :=
  takeInAnyOrder_rel Keeps .refl (fun _ _ _ => .trans) (fun _ => .of_same) act each l s

/-! ### A fan takes its mode target (R43, R44, R47, R137) -/

/-- Fan `f` has taken `m` for its mode target, and with it its composed target. -/
structure Refreshed (f : Fin 4) (m : Target) (s t : State) : Prop where
  sound : Sound s t
  frame : FanFrame s t
  modeTarget : (t.fan f).modeTarget = m
  others : ∀ g, g ≠ f → (t.fan g).modeTarget = (s.fan g).modeTarget
  setpoints : ∀ g, (t.fan g).setpoint = (s.fan g).setpoint
  composed : ComposedAt t f
  lockouts : ∀ g, (t.fan g).state = .lockedOut → (s.fan g).state = .lockedOut ∨ MayLock s g

/-- The fan as it stands when its mode target has been taken and its target composed, nothing done about it yet. -/
def wishing (f : Fin 4) (m : Target) (s : State) : State :=
  let u := s.withFan f { s.fan f with modeTarget := m }
  withTarget f (composedTarget u f) u

theorem wishing_eq (f : Fin 4) (m : Target) (s : State) : wishing f m s = s.withFan f { s.fan f with
    modeTarget := m, target := composedTarget (s.withFan f { s.fan f with modeTarget := m }) f } := by
  simp [wishing, withTarget]

theorem wishing_composed (f : Fin 4) (m : Target) (s : State) : ComposedAt (wishing f m s) f := withTarget_composedAt ..

theorem setModeTarget_event (f : Fin 4) (m : Target) (s : State) : FanEvent f (wishing f m s) (setModeTarget f m s) :=
  recompose_event ..

theorem wishing_sound (f : Fin 4) (m : Target) (s : State) : Sound s (wishing f m s) := by
  have h := wishing_composed f m s
  rw [wishing_eq] at h ⊢
  exact withFan_sound {} fun _ => h

theorem setModeTarget_refreshed (f : Fin 4) (m : Target) (s : State) : Refreshed f m s (setModeTarget f m s) := by
  have event := setModeTarget_event f m s
  have mild := event.mild
  have same : SameFan (s.fan f) { s.fan f with
    modeTarget := m, target := composedTarget (s.withFan f { s.fan f with modeTarget := m }) f } := {}
  refine ⟨(wishing_sound f m s).trans (.of_event event), setModeTarget_frame f m s, (mild.fans f).modeTarget.trans ?_,
    fun g hg => (mild.fans g).modeTarget.trans ?_, fun g => (mild.fans g).setpoint.trans ?_,
    mild.composedAt (wishing_composed f m s), fun g hg => ?_⟩
  · simp [wishing_eq]
  · rw [wishing_eq, State.withFan_fan_of_ne _ _ hg]
  · by_cases hg : g = f
    · subst hg
      simp [wishing_eq]
    · rw [wishing_eq, State.withFan_fan_of_ne _ _ hg]
  · rw [wishing_eq] at mild
    refine ((mild.fans g).lockout hg).imp_left fun h => ?_
    exact (withFan_same same g).state.symm.trans h

/-! ### AUTO (R35, R43, R46) -/

theorem refreshAuto_refreshed {f : Fin 4} {s : State} (h : s.modes.mode = .auto) :
    Refreshed f (autoTarget s f) s (refreshAuto f s) := by
  simp only [refreshAuto, h, if_true]
  exact setModeTarget_refreshed ..

theorem refreshAuto_sound (f : Fin 4) (s : State) : Sound s (refreshAuto f s) := by
  unfold refreshAuto
  split
  · exact (setModeTarget_refreshed ..).sound
  · exact .refl s

/-- Every fan refreshed in AUTO is at its AUTO target (R43). -/
theorem refreshAutoAll_modeTarget {s : State} (h : s.modes.mode = .auto) (f : Fin 4) :
    ((takeInAnyOrder allFans refreshAuto s).fan f).modeTarget = autoTarget (takeInAnyOrder allFans refreshAuto s) f := by
  refine takeAllFans_all (fun u => u.modes.mode = .auto) (fun f u => (u.fan f).modeTarget = autoTarget u f)
    (fun _ => id) (fun g u hu => by rw [(refreshAuto_frame g u).modes]; exact hu) (fun g u hu => ?_) (fun f g u hu hf => ?_) h f
  · have k := refreshAuto_refreshed (f := g) hu
    rw [k.modeTarget, autoTarget_congr k.frame.store (by rw [k.frame.demand])]
  · have k := refreshAuto_refreshed (f := g) hu
    rw [autoTarget_congr k.frame.store (by rw [k.frame.demand])]
    by_cases hg : f = g
    · subst hg
      exact k.modeTarget
    · rw [k.others f hg]
      exact hf

theorem refreshAutoAll_sound (s : State) : Sound s (takeInAnyOrder allFans refreshAuto s) :=
  .takeInAnyOrder refreshAuto_sound _ s

theorem refreshAutoAll_frame (s : State) : FanFrame s (takeInAnyOrder allFans refreshAuto s) :=
  .takeInAnyOrder refreshAuto refreshAuto_frame _ s

theorem LockoutOk.of_mode {s : State} (h : s.modes.mode ≠ .incident) : LockoutOk s := fun k => absurd k h

/-- Every fan refreshed behind the change of its AUTO target: a change of the stage, of a setting or of the mode. -/
theorem refreshAutoAll_wishes {s : State} (h : s.modes.mode = .auto)
    (hd : ∀ (f : Fin 4) ms, s.modes.delays[f]'f.isLt ≠ .running ms) : WishesOk (takeInAnyOrder allFans refreshAuto s) where
  auto _ := refreshAutoAll_modeTarget h
  manual k := by simp [(refreshAutoAll_frame s).modes, h] at k
  incident k := by simp [(refreshAutoAll_frame s).modes, h] at k
  delays _ := by rw [(refreshAutoAll_frame s).modes]; exact hd

theorem recomputeDemand_sound (s : State) : Sound s (recomputeDemand s) := by
  unfold recomputeDemand
  dsimp only
  split
  · exact .refl s
  · have staged : Sound s (report 0 (.demand (demandStage s) s.demand.floor)
        (s.withDemand { s.demand with stage := demandStage s })) := .of_same (hq := .arrive ..)
    split
    · exact staged.trans (refreshAutoAll_sound _)
    · exact staged

theorem recomputeDemand_keeps (s : State) : Keeps s (recomputeDemand s) := by
  have frame := recomputeDemand_frame s
  by_cases hs : demandStage s = s.demand.stage
  · simp only [recomputeDemand, hs, if_true]
    exact .refl s
  by_cases hm : s.modes.mode = .auto
  · refine .of_sound (recomputeDemand_sound s) (fun _ => .of_mode (by simp [frame.modes, hm])) fun k => ?_
    simp only [recomputeDemand, hs, if_false, report_modes, State.withDemand_modes, hm, if_true]
    exact refreshAutoAll_wishes hm (k.delays (by simp [hm]))
  · have fans (f : Fin 4) : (recomputeDemand s).fan f = s.fan f := by
      simp only [State.fan, (recomputeDemand_of_ne_auto hm).1]
    exact .of_sound (recomputeDemand_sound s) ((SameModes.of_eq frame.modes).lockoutOk fun f h => .inl (by rwa [fans] at h))
      fun k => k.wishes.of_same (.of_eq frame.modes) frame.store (fun h => absurd h hm) fun f => by
        rw [fans]; exact ⟨rfl, rfl⟩

end Sys2Proof.Machine
end

section
/-! The invariants of O56 to O58 along the events of the demand unit, the mode controller and the hardwired lines. -/

namespace Sys2Proof.Machine

/-! ### One write at each fan -/

theorem withFan_composed {f : Fin 4} {x : Fan} {s : State} (ht : x.target = (s.fan f).target)
    (hm : x.modeTarget = (s.fan f).modeTarget) (h : ComposedAt s f) : ComposedAt (s.withFan f x) f := by
  have same : composedTarget (s.withFan f x) f = composedTarget s f :=
    composedTarget_congr (by simpa using hm) (fun _ => rfl) Iff.rfl rfl rfl
  unfold ComposedAt
  rw [same, State.withFan_fan_self, ht]
  exact h

theorem discardSetpoints_sound (s : State) : Sound s (discardSetpoints s) :=
  .takeEach (fun f u => withFan_sound (x := { u.fan f with setpoint := none }) {} (withFan_composed rfl rfl)) _ s

/-! ### The demand unit (R20, R27 to R31) -/

theorem levelChanged_keeps (before : Nat) (c : Fin 8) (s : State) : Keeps s (levelChanged before c s) := by
  unfold levelChanged
  dsimp only
  split
  · exact .refl s
  · split
    · exact (Keeps.report ..).trans (recomputeDemand_keeps _)
    · exact .report ..

theorem Keeps.withChannel (c : Fin 8) (x : Channel) (s : State) : Keeps s (s.withChannel c x) := .of_same

theorem evaluateLevel_keeps (c : Fin 8) (s : State) : Keeps s (evaluateLevel c s) := by
  unfold evaluateLevel
  dsimp only
  split
  · exact (Keeps.withChannel ..).trans (levelChanged_keeps ..)
  · exact .refl s

theorem setLevel_keeps (c : Fin 8) (n : Nat) (s : State) : Keeps s (setLevel c n s) :=
  (Keeps.withChannel ..).trans (levelChanged_keeps ..)

theorem handOutcome_keeps (c : Fin 8) (o : SampleOutcome) (s : State) : Keeps s (handOutcome c o s) := by
  unfold handOutcome
  split
  · refine Keeps.trans ?_ (evaluateLevel_keeps ..)
    split
    · exact .report ..
    · exact .refl s
  · exact .refl s
  · exact (Keeps.report ..).trans (setLevel_keeps ..)
  · exact .refl s

theorem sampleInstant_keeps (c : Fin 8) (current : Nat) (s : State) : Keeps s (sampleInstant c current s) := by
  refine Keeps.trans ?_ (.takeInAnyOrder (fun d s => .of_steps (observeRelief_steps c d s)) _ _)
  unfold takeSample
  dsimp only
  split
  · exact .refl s
  · exact (Keeps.withChannel ..).trans (handOutcome_keeps ..)

theorem channelOff_keeps (c : Fin 8) (s : State) : Keeps s (channelOff c s) := by
  unfold channelOff
  split
  · exact .refl s
  · exact ((Keeps.withChannel ..).trans (setLevel_keeps ..)).trans (recomputeDemand_keeps _)

theorem channelOn_keeps (c : Fin 8) (s : State) : Keeps s (channelOn c s) := by
  unfold channelOn
  split
  · exact (Keeps.withChannel ..).trans (recomputeDemand_keeps _)
  · exact .refl s

/-! ### AUTO and MANUAL (R44, R130 to R132, R145) -/

theorem leaveManual_sound (cause : ModeCause) (s : State) : Sound s (leaveManual cause s) :=
  (Sound.trans (.of_same (hq := .arrive ..)) (discardSetpoints_sound _)).trans (refreshAutoAll_sound _)

/-- The mode controller in AUTO with every setpoint discarded, its MODE report queued: the fans are then refreshed (R132). -/
def manualLeft (cause : ModeCause) (s : State) : State :=
  discardSetpoints (reportMode cause 0 (s.withModes { s.modes with mode := .auto }))

theorem leaveManual_eq (cause : ModeCause) (s : State) :
    leaveManual cause s = takeInAnyOrder allFans refreshAuto (manualLeft cause s) := rfl

theorem manualLeft_modes (cause : ModeCause) (s : State) : (manualLeft cause s).modes = { s.modes with mode := .auto } :=
  (discardSetpoints_frame _).modes

theorem leaveManual_modes (cause : ModeCause) (s : State) : (leaveManual cause s).modes = { s.modes with mode := .auto } :=
  (refreshAutoAll_frame _).modes.trans (manualLeft_modes cause s)

theorem leaveManual_keeps (cause : ModeCause) {s : State} (h : s.modes.mode = .manual) : Keeps s (leaveManual cause s) :=
  .of_sound (leaveManual_sound cause s) (fun _ => .of_mode (by simp [leaveManual_modes])) fun k =>
    refreshAutoAll_wishes (s := manualLeft cause s) (by simp [manualLeft_modes]) (by
      rw [manualLeft_modes]
      exact k.delays (by simp [h]))

theorem enterManual_keeps {s : State} (h : s.modes.mode ≠ .incident) : Keeps s (enterManual s) := by
  have sound : Sound s (enterManual s) :=
    (Sound.trans (.of_same) (discardSetpoints_sound _)).trans (.of_same (hq := .arrive ..))
  have modes : (enterManual s).modes = { s.modes with mode := .manual } := (discardSetpoints_frame _).modes
  refine .of_sound sound (fun _ => .of_mode (by simp [modes])) fun k => ?_
  refine ⟨fun e => ?_, fun _ f t ht => ?_, fun e => ?_, fun _ => by rw [modes]; exact k.delays h⟩
  · simp [modes] at e
  · have none : ((enterManual s).fan f).setpoint = none := by
      rw [show (enterManual s).fan f = _ from discardSetpoints_fan _ f]
    simp [none] at ht
  · simp [modes] at e

theorem changeMode_keeps (m : Mode) {s : State} (h : s.modes.mode ≠ .incident) : Keeps s (changeMode m s) := by
  unfold changeMode
  split
  · exact .refl s
  · next hm =>
    split
    · refine leaveManual_keeps _ ?_
      cases hs : s.modes.mode <;> simp_all
    · exact enterManual_keeps h
    · exact .refl s

theorem linkExpires_keeps (s : State) : Keeps s (linkExpires s) := by
  unfold linkExpires
  dsimp only
  have lost : Keeps s (report 0 (.link false) (s.withModes { s.modes with linkTimer := none, lineLost := true })) :=
    .of_same (hq := .arrive ..)
  split
  · next h => exact lost.trans (leaveManual_keeps _ h)
  · exact lost

theorem linkTimeout_keeps (s : State) : Keeps s (linkTimeout s) := by
  unfold linkTimeout
  split
  · exact linkExpires_keeps s
  · exact .refl s

theorem linkAlive_keeps (s : State) : Keeps s (linkAlive s) := by
  unfold linkAlive
  split
  · exact .of_same (hq := .arrive ..)
  · exact .of_same

/-- FAN_SET in MANUAL: the setpoint is the mode target (R44). -/
theorem takeSetpoint_keeps (f : Fin 4) (t : Target) {s : State} (h : s.modes.mode = .manual) : Keeps s (takeSetpoint f t s) := by
  have r := setModeTarget_refreshed f t (s.withFan f { s.fan f with setpoint := some t })
  have same : SameFan (s.fan f) { s.fan f with setpoint := some t } := {}
  have sound : Sound s (takeSetpoint f t s) := (withFan_sound same (withFan_composed rfl rfl)).trans r.sound
  have modes : (takeSetpoint f t s).modes = s.modes := (takeSetpoint_frame f t s).modes
  refine .of_sound sound ((SameModes.of_eq modes).lockoutOk fun g hg => ?_) fun k =>
    ⟨fun e => ?_, fun _ g u hg => ?_, fun e => ?_, fun _ => by rw [modes]; exact k.delays (by simp [h])⟩
  · exact (r.lockouts g hg).imp_left fun e => (withFan_same same g).state.symm.trans e
  · simp [modes, h] at e
  · have hs := (r.setpoints g).symm.trans hg
    by_cases he : g = f
    · subst he
      rw [State.withFan_fan_self] at hs
      exact r.modeTarget.trans (Option.some_inj.mp hs)
    · rw [s.withFan_fan_of_ne _ he] at hs
      refine (r.others g he).trans ?_
      rw [s.withFan_fan_of_ne _ he]
      exact k.manual h g u hs
  · simp [modes, h] at e

/-! ### Scenarios (R136 to R141) -/

theorem refreshIncident_refreshed (f : Fin 4) (s : State) :
    Refreshed f (incidentTarget s f) s (refreshIncident f s) := setModeTarget_refreshed ..

/-- A refreshed fan is at its incident mode target. -/
theorem incidentTarget_of_refreshed {s t : State} (hm : t.modes = s.modes) {f : Fin 4}
    (h : (t.fan f).modeTarget = incidentTarget s f) : (t.fan f).modeTarget = incidentTarget t f := by
  obtain ⟨m, hg⟩ | hg := incidentTarget_given_or_held s f
  · rw [h, hg s rfl, hg t hm]
  · exact (hg t hm).symm

theorem refreshIncident_sound (f : Fin 4) (s : State) : Sound s (refreshIncident f s) := (refreshIncident_refreshed f s).sound

theorem refreshIncidentAll_frame (s : State) : FanFrame s (takeInAnyOrder allFans refreshIncident s) :=
  .takeInAnyOrder refreshIncident refreshIncident_frame _ s

/-- Every fan refreshed behind an engagement is at its incident mode target (R136 step 3, R140 step 4). -/
theorem refreshIncidentAll_modeTarget (s : State) (f : Fin 4) :
    ((takeInAnyOrder allFans refreshIncident s).fan f).modeTarget =
      incidentTarget (takeInAnyOrder allFans refreshIncident s) f := by
  refine takeAllFans_all (fun _ => True) (fun f u => (u.fan f).modeTarget = incidentTarget u f)
    (fun _ => id) (fun _ _ => id) (fun g u _ => ?_) (fun f g u _ hf => ?_) trivial f
  · have k := refreshIncident_refreshed g u
    exact incidentTarget_of_refreshed k.frame.modes k.modeTarget
  · have k := refreshIncident_refreshed g u
    by_cases hg : f = g
    · subst hg
      exact incidentTarget_of_refreshed k.frame.modes k.modeTarget
    · rw [incidentTarget_congr (.of_eq k.frame.modes) (k.others f hg), k.others f hg]
      exact hf

/-- A cleared lockout stands no longer (R59). -/
theorem clearLockout_state {f : Fin 4} {s : State} (h : ¬ MayLock s f) : ((clearLockout f s).fan f).state ≠ .lockedOut := by
  intro k
  have mild := serve_mild (reportFanChange .lockedOut f .clear (enterOff f (s.withFan f { s.fan f with
    tripCount := 0, lastTrip := .noTrip, lockoutMemory := false })))
  have frame := (enterOff_frame f (s.withFan f { s.fan f with
    tripCount := 0, lastTrip := .noTrip, lockoutMemory := false })).trans (reportFanChange_frame .lockedOut f .clear _)
  obtain hs | hl := (mild.fans f).lockout k
  · rw [reportFanChange_fan] at hs
    have off := reapply_at f ((s.withFan f { s.fan f with
      tripCount := 0, lastTrip := .noTrip, lockoutMemory := false }).withFan f
        (Fan.outputsOff { s.fan f with tripCount := 0, lastTrip := .noTrip, lockoutMemory := false } .off))
    obtain hs | hl := off.mild.lockout (by simpa [enterOff] using hs)
    · simp [Fan.outputsOff] at hs
    · exact h hl
  · rw [frame.mayLock] at hl
    exact h hl

/-- No fan with an entry is LOCKED_OUT once every lockout of an engagement has been cleared (R59, R136 step 4). -/
theorem clearIfEnteredAll_lockoutOk (s : State) : LockoutOk (takeInAnyOrder allFans clearIfEntered s) := by
  refine lockoutOk_iff.mpr fun f => ?_
  refine takeAllFans_all (fun _ => True) (fun f u => (u.fan f).state = .lockedOut → MayLock u f)
    (fun _ => id) (fun _ _ => id) (fun g u _ k => ?_) (fun f g u _ hf k => ?_) trivial f
  · have event := clearIfEntered_event g u
    rw [event.mild.frame.mayLock]
    by_contra hm
    unfold clearIfEntered at k
    split at k
    · exact clearLockout_state hm k
    · next hc =>
      simp only [MayLock, not_or, not_not, Bool.not_eq_false] at hm
      exact hc ⟨k, hm.2⟩
  · have event := clearIfEntered_event g u
    rw [event.mild.frame.mayLock]
    exact ((event.mild.fans f).lockout k).elim hf id

/-! ### Engagement and the leaving of INCIDENT (R136, R140, R141) -/

theorem engageRecord_sound (n : Nat) (cause : ModeCause) (tag : Nat) (s : State) : Sound s (engageRecord n cause tag s) :=
  .of_same (hq := .arrive ..)

theorem refreshIncidentAll_sound (s : State) : Sound s (takeInAnyOrder allFans refreshIncident s) :=
  .takeInAnyOrder refreshIncident_sound _ s

theorem clearIfEnteredAll_steady (s : State) : Steady s (takeInAnyOrder allFans clearIfEntered s) :=
  .takeInAnyOrder (fun f s => .of_event (clearIfEntered_event f s)) _ s

theorem joinInIncidentAll_steady (s : State) : Steady s (takeInAnyOrder allFans joinInIncident s) :=
  .takeInAnyOrder (fun f s => .of_event (joinOnCredit_event f s)) _ s

/-- The state in which every fan has taken its mode target at a first engagement. -/
def engagedFirst (n : Nat) (cause : ModeCause) (tag : Nat) (s : State) : State :=
  takeInAnyOrder allFans refreshIncident (engageRecord n cause tag (discardSetpoints (freezeTargets s)))

theorem engagedFirst_sound (n : Nat) (cause : ModeCause) (tag : Nat) (s : State) : Sound s (engagedFirst n cause tag s) :=
  ((Sound.trans (.of_same) (discardSetpoints_sound _)).trans (engageRecord_sound ..)).trans (refreshIncidentAll_sound _)

theorem engagedFirst_mode (n : Nat) (cause : ModeCause) (tag : Nat) (s : State) :
    (engagedFirst n cause tag s).modes.mode = .incident := by
  rw [engagedFirst, (refreshIncidentAll_frame _).modes]
  rfl

/-- In INCIDENT, fans at their incident mode targets have the wishes of their mode. -/
theorem WishesOk.of_incident {s : State} (h : s.modes.mode = .incident) (hf : ∀ f, (s.fan f).modeTarget = incidentTarget s f) :
    WishesOk s where
  auto k := by simp [h] at k
  manual k := by simp [h] at k
  incident _ := hf
  delays k := absurd h k

theorem WishesOk.of_steady {s t : State} (k : WishesOk s) (h : Steady s t) : WishesOk t :=
  k.of_same (.of_eq h.frame.modes) h.frame.store (fun _ => by rw [h.frame.demand]) h.wishes

theorem LockoutOk.of_steady {s t : State} (k : LockoutOk s) (h : Steady s t) : LockoutOk t :=
  (SameModes.of_eq h.frame.modes).lockoutOk h.lockouts k

theorem engageFirst_keeps (n : Nat) (cause : ModeCause) (tag : Nat) (s : State) : Keeps s (engageFirst n cause tag s) := by
  have cleared := clearIfEnteredAll_steady (engagedFirst n cause tag s)
  have behind := (joinInIncidentAll_steady (takeInAnyOrder allFans clearIfEntered (engagedFirst n cause tag s))).trans
    (changePolicies_steps none (takeInAnyOrder allFans joinInIncident
      (takeInAnyOrder allFans clearIfEntered (engagedFirst n cause tag s))).modes.record _).steady
  exact .of_sound ((engagedFirst_sound n cause tag s).trans (cleared.trans behind).toSound)
    (fun _ => (clearIfEnteredAll_lockoutOk _).of_steady behind)
    fun _ => (WishesOk.of_incident (engagedFirst_mode ..) (refreshIncidentAll_modeTarget _)).of_steady (cleared.trans behind)

/-- The state in which every fan has taken its mode target at a re-engagement. -/
def engagedAgain (n : Nat) (cause : ModeCause) (tag : Nat) (s : State) : State :=
  takeInAnyOrder allFans refreshIncident (changePolicies s.modes.record (engageRecord n cause tag s).modes.record
    (engageRecord n cause tag s))

theorem engageAgain_keeps (n : Nat) (cause : ModeCause) (tag : Nat) (s : State) : Keeps s (engageAgain n cause tag s) := by
  have policies := (changePolicies_steps s.modes.record (engageRecord n cause tag s).modes.record (engageRecord n cause tag s)).steady
  have cleared := clearIfEnteredAll_steady (engagedAgain n cause tag s)
  have mode : (engagedAgain n cause tag s).modes.mode = .incident := by
    rw [engagedAgain, (refreshIncidentAll_frame _).modes, policies.frame.modes]
    rfl
  exact .of_sound ((((engageRecord_sound n cause tag s).trans policies.toSound).trans (refreshIncidentAll_sound _)).trans
      cleared.toSound) (fun _ => clearIfEnteredAll_lockoutOk _)
    fun _ => (WishesOk.of_incident mode (refreshIncidentAll_modeTarget _)).of_steady cleared

theorem Steady.takeEach {α : Type} {act : α → State → State} (each : ∀ x s, Steady s (act x s)) (l : List α)
    (s : State) : Steady s (takeEach l act s) := takeEach_rel Steady .refl (fun _ _ _ => .trans) act each l s

/-- The last steps of the leaving of INCIDENT, behind the fans' AUTO targets (R141 steps 5 and 6). -/
theorem leavingEnds_steady (s : State) : Steady s (takeEach allFans restartVerify (takeEach allFans waitForCredit s)) :=
  (Steady.takeEach (fun f s => .of_event (waitForCredit_event f s)) _ s).trans
    (.takeEach (fun f s => .of_event (restartVerify_event f s)) _ _)

/-- INCIDENT left and the policies of its record removed: the fans are then refreshed (R141 steps 1 to 3). -/
def incidentLeft (cause : ModeCause) (tag : Nat) (s : State) : State :=
  changePolicies s.modes.record none (reportMode cause tag (s.withModes { s.modes with
    mode := .auto, engaged := 0, record := none, delays := Vector.replicate 4 .absent, frozen := none }))

theorem leaveIncident_eq (cause : ModeCause) (tag : Nat) (s : State) : leaveIncident cause tag s =
    takeEach allFans restartVerify (takeEach allFans waitForCredit
      (takeInAnyOrder allFans refreshAuto (incidentLeft cause tag s))) := rfl

theorem incidentLeft_modes (cause : ModeCause) (tag : Nat) (s : State) : (incidentLeft cause tag s).modes = { s.modes with
    mode := .auto, engaged := 0, record := none, delays := Vector.replicate 4 .absent, frozen := none } :=
  (changePolicies_steps ..).steady.frame.modes

theorem leaveIncident_keeps (cause : ModeCause) (tag : Nat) (s : State) : Keeps s (leaveIncident cause tag s) := by
  have ends := leavingEnds_steady (takeInAnyOrder allFans refreshAuto (incidentLeft cause tag s))
  have mode : (incidentLeft cause tag s).modes.mode = .auto := by rw [incidentLeft_modes]
  have left : Sound s (incidentLeft cause tag s) :=
    Sound.trans (.of_same (hq := .arrive ..)) (changePolicies_steps ..).steady.toSound
  rw [leaveIncident_eq]
  exact .of_sound ((left.trans (refreshAutoAll_sound _)).trans ends.toSound)
    (fun _ => .of_mode (by rw [ends.frame.modes, (refreshAutoAll_frame _).modes, mode]; nofun))
    fun _ => (refreshAutoAll_wishes mode (by rw [incidentLeft_modes]; simp)).of_steady ends

theorem engageScenario_keeps (n : Nat) (cause : ModeCause) (tag : Nat) (s : State) :
    Keeps s (engageScenario n cause tag s) := by
  unfold engageScenario
  split
  · split
    · exact leaveIncident_keeps ..
    · exact .refl s
  · split
    · exact engageAgain_keeps ..
    · exact engageFirst_keeps ..

/-- The end of a start delay in INCIDENT gives the fan its entry and leaves the others as they were (R137). -/
theorem startDelayExpiry_keeps (f : Fin 4) (s : State) : Keeps s (startDelayExpiry f s) := by
  unfold startDelayExpiry
  split
  · next ms hd =>
    have r := refreshIncident_refreshed f (s.withModes { s.modes with delays := s.modes.delays.set f .expired f.isLt })
    have mode : (refreshIncident f (s.withModes { s.modes with delays := s.modes.delays.set f .expired f.isLt })).modes.mode =
        s.modes.mode := by rw [r.frame.modes]; rfl
    have mayLock (g : Fin 4) : MayLock (refreshIncident f (s.withModes { s.modes with
        delays := s.modes.delays.set f .expired f.isLt })) g ↔ MayLock s g := by
      rw [r.frame.mayLock]
      rfl
    refine .of_sound (Sound.trans .of_same r.sound) (fun k => lockoutOk_iff.mpr fun g hg => (mayLock g).mpr ?_) fun k => ?_
    · exact (r.lockouts g hg).elim (lockoutOk_iff.mp k g) id
    · have incident : s.modes.mode = .incident := by
        by_contra h
        exact k.delays h f ms hd
      refine .of_incident (mode.trans incident) fun g => ?_
      by_cases hg : g = f
      · subst hg
        exact incidentTarget_of_refreshed r.frame.modes r.modeTarget
      · have hn : (f : Nat) ≠ g := fun e => hg (Fin.ext e.symm)
        have held := k.incident incident g
        rw [r.others g hg]
        refine held.trans ?_
        have := r.others g hg
        simp only [incidentTarget, engagedEntry, r.frame.modes, this]
        simp [hn]
  · exact .refl s

/-! ### Hardwired lines (chapter 9) -/

/-- Where STOP is released, nothing is asked of the fans besides their places. -/
theorem InOrder.released {s t : State} (h : InOrder s) (hs : t.stop.asserted = false)
    (hf : ∀ f, t.fan f = s.fan f := by exact fun _ => rfl) (ha : t.arbiter = s.arbiter := by rfl)
    (hc : t.ctl = s.ctl := by rfl) : InOrder t where
  slots := by rw [ha, hc]; exact h.slots
  holdersOnce := by rw [ha]; exact h.holdersOnce
  suspendedOnce := by rw [ha]; exact h.suspendedOnce
  places f := by
    obtain ⟨h1, h2, h3, h4, h5, h6, _⟩ := h.places f
    exact ⟨by rwa [hf, ha], by rwa [hf, ha], by rwa [hf, ha], by rwa [hf], by rwa [hf, ha], by rwa [hf],
      fun k => absurd (hs.symm.trans k) nofun⟩

/-- STOP released at its line (R150). -/
theorem stopLineReleased_keeps {s t : State} (hs : t.stop.asserted = false)
    (h : t = { s with stop := t.stop, reports := t.reports } := by rfl)
    (hq : Queued s.reports t.reports := by exact .refl _) : Keeps s t := by
  rw [h]
  exact .of_sound ⟨rfl, hq, id, fun _ => id, fun _ => id, fun k => k.released hs, fun _ _ k => k.of_same⟩ id fun k =>
    k.wishes.of_same {} rfl (fun _ => rfl) fun _ => ⟨rfl, rfl⟩

theorem heldFlags_keeps (b : Bool) (s : State) :
    Keeps s (takeEach allFans (fun f s => s.withFan f { s.fan f with held := b }) s) :=
  .of_steady (.takeEach (fun f u => .of_event (f := f) (.withFan (x := { u.fan f with held := b }))) _ s)

theorem resumeAll_keeps (cause : FanCause) (s : State) : Keeps s (takeInAnyOrder allFans (resumeFan cause) s) :=
  .of_steady (.takeInAnyOrder (fun f s => .of_event (resumeFan_event cause f s)) _ s)

theorem stopReleased_keeps (s : State) : Keeps s (stopReleased s) := by
  unfold stopReleased
  split
  · dsimp only
    have released : Keeps s (report 0 (.line .stop false) { s with stop := .taken false }) :=
      stopLineReleased_keeps rfl rfl (.arrive ..)
    split
    · exact released.trans (resumeAll_keeps ..)
    · exact released.trans (heldFlags_keeps ..)
  · exact stopLineReleased_keeps rfl

theorem escapeAsserted_keeps (s : State) : Keeps s (escapeAsserted s) := by
  unfold escapeAsserted
  split
  · exact .refl s
  · exact Keeps.trans (.of_same (hq := .arrive ..)) (.takeInAnyOrder (fun d s => .of_steps (arrive_steps d .escapeLine s)) _ _)

theorem escapeReleased_keeps (s : State) : Keeps s (escapeReleased s) := by
  unfold escapeReleased
  split
  · exact Keeps.trans (.of_same (hq := .arrive ..))
      (.takeInAnyOrder (fun d s => .of_steps (removeSource_steps d .escapeLine s)) _ _)
  · exact .of_same

theorem maintAsserted_keeps (s : State) : Keeps s (maintAsserted s) := by
  unfold maintAsserted
  split
  · exact .refl s
  · exact .of_same (hq := .arrive ..)

theorem maintLeavesManual_keeps (s : State) : Keeps s (maintLeavesManual s) := by
  unfold maintLeavesManual
  split
  · next h => exact leaveManual_keeps _ h
  · exact .refl s

theorem maintReleased_keeps (s : State) : Keeps s (maintReleased s) := by
  unfold maintReleased
  split
  · refine Keeps.trans (.of_same (hq := .arrive ..)) (.takeInAnyOrder (fun b s => ?_) _ _)
    split
    · exact maintLeavesManual_keeps s
    · exact .of_steps (maintAtDoor_steps ..)
  · exact .of_same

/-! ### The assertion of STOP (R148) -/

theorem stopFan_at (f : Fin 4) (s : State) : At f s (stopFan f s) := by
  unfold stopFan
  split
  case h_1 => exact (At.withFan (.outputsOff (st := .off) nofun)).trans (reportFan_at ..)
  case h_2 | h_3 | h_4 => exact (At.withFan (.outputsOff (st := .coasting) nofun)).trans (reportFan_at ..)
  all_goals exact .refl f s

/-- The arbiter with nobody left in it (R148). -/
def leaveAll (s : State) : State := takeEach allFans leaveArbiter s

theorem leaveAll_unserved (s : State) (f : Fin 4) : Unserved (leaveAll s) f :=
  takeEach_all (fun _ => True) (fun f u => Unserved u f) (fun _ _ => id) (fun g u _ => leaveArbiter_unserved g u)
    (fun f g u _ h => by
      by_cases hg : f = g
      · subst hg
        exact leaveArbiter_unserved ..
      · exact ((leaveArbiter_at g u).leavesAlone hg h).2)
    allFans trivial f (mem_allFans f)

theorem leaveAll_fan (s : State) (f : Fin 4) :
    (leaveAll s).fan f = { s.fan f with creditWait := false, suspended := false } :=
  takeEachFan_fan (w := fun x => { x with creditWait := false, suspended := false }) (fun g u => leaveArbiter_fan g u)
    (fun g _ u h => (leaveArbiter_at g u).fans _ h) s f

theorem leaveAll_mild (s : State) : Mild s (leaveAll s) :=
  takeEach_rel Mild .refl (fun _ _ _ => .trans) leaveArbiter (fun f s => (leaveArbiter_at f s).toMild) allFans s

/-- Every fan of an emptied arbiter taken by STOP. -/
def stopAll (s : State) : State := takeInAnyOrder allFans stopFan (leaveAll s)

theorem stopAll_fan (s : State) (f : Fin 4) :
    (stopAll s).fan f = Fan.stopped { s.fan f with creditWait := false, suspended := false } := by
  rw [stopAll, takeAllFans_fan stopFan_fan stopFan_fan_of_ne, leaveAll_fan]

theorem stopAll_arbiter (s : State) : (stopAll s).arbiter = (leaveAll s).arbiter :=
  takeInAnyOrder_rel (fun s t => t.arbiter = s.arbiter) (fun _ => rfl) (fun _ _ _ a b => b.trans a) (fun _ => rfl) stopFan
    stopFan_arbiter allFans _

theorem stopAll_unserved (s : State) (f : Fin 4) : Unserved (stopAll s) f :=
  (leaveAll_unserved s f).of_arbiter (stopAll_arbiter s)

theorem stopAll_mild (s : State) : Mild s (stopAll s) :=
  (leaveAll_mild s).trans (takeInAnyOrder_rel Mild .refl (fun _ _ _ => .trans) (fun s => ⟨.nextChoice s, fun _ => {}⟩) stopFan
    (fun f s => (stopFan_at f s).toMild) allFans _)

theorem holders_of_unserved {s : State} (h : ∀ f, Unserved s f) : s.arbiter.holders = [] :=
  List.eq_nil_iff_forall_not_mem.mpr fun f => (h f).1

theorem noRequest_of_unserved {s : State} (h : ∀ f, Unserved s f) : NoRequest s :=
  ⟨fun f => (h f).2.1, List.eq_nil_iff_forall_not_mem.mpr fun f => (h f).2.2⟩

theorem ServedOk.of_noRequest {s : State} (h : NoRequest s) : ServedOk s :=
  ⟨fun _ => h, fun _ f _ => ⟨h.1 f, by simp [h.2]⟩⟩

theorem Fan.stopped_still (x : Fan) : busyState x.stopped.state = false ∧ x.stopped.creditWait = x.creditWait ∧
    ((drives x.state = false → x.reference = 0) → x.stopped.reference = 0) := by
  cases h : x.state <;> simp [Fan.stopped, Fan.outputsOff, busyState, drives, h]

/-- Nobody drives or asks once STOP has taken every fan. -/
theorem stopAll_inOrder {s t : State} (h : InOrder s) (hf : ∀ f, t.fan f = s.fan f) : InOrder (stopAll t) := by
  have unserved := stopAll_unserved t
  refine ⟨?_, ?_, ?_, fun f => ?_⟩
  · simp [holders_of_unserved unserved]
  · simp [holders_of_unserved unserved]
  · simp [(noRequest_of_unserved unserved).2]
  · obtain ⟨still, calm, rests⟩ := Fan.stopped_still { s.fan f with creditWait := false, suspended := false }
    have fan := stopAll_fan t f
    rw [hf] at fan
    simp only [busyState, Bool.or_eq_false_iff, beq_eq_false_iff_ne] at still
    exact .of_unserved (unserved f) (by rw [fan]; exact calm) (by rw [fan]; exact still.2)
      (fun _ => by rw [fan]; exact rests (h.places f).atRest) (fun _ => by rw [fan]; exact still.1)

theorem stopAsserted_eq {s : State} (h : s.stop.asserted = false) :
    stopAsserted s = stopAll (report 0 (.line .stop true) { s with stop := .taken true }) := by
  simp only [stopAsserted, h]
  rfl

theorem stopAsserted_keeps (s : State) : Keeps s (stopAsserted s) := by
  cases h : s.stop.asserted with
  | true =>
    simp only [stopAsserted, h, if_true]
    exact .refl s
  | false =>
    rw [stopAsserted_eq h]
    have mild := stopAll_mild (report 0 (.line .stop true) { s with stop := .taken true })
    exact .of_sound {
        store := mild.frame.store
        queued := (Queued.arrive ..).trans mild.frame.queued
        credits := fun k => mild.creditsOk k
        composed := fun _ k => mild.composedAt k
        cap := fun k k' => mild.capOk k k'
        orders := fun k => stopAll_inOrder k fun _ => rfl
        served := fun _ _ _ => .of_noRequest (noRequest_of_unserved (stopAll_unserved _)) }
      ((SameModes.of_eq mild.frame.modes).lockoutOk fun f k => (mild.fans f).lockout k)
      fun k => k.wishes.of_same (.of_eq mild.frame.modes) mild.frame.store (fun _ => by rw [mild.frame.demand]; rfl) fun f =>
        ⟨(mild.fans f).modeTarget, (mild.fans f).setpoint⟩

end Sys2Proof.Machine
end

section
/-! The invariants of O56 to O58 along the writes of the settings: SET_PARAM, SET_ACTIVE, SET_SCENARIO, SAVE and the stations
(chapter 12). -/

namespace Sys2Proof.Machine

/-! ### The settings that the invariants read -/

/-- The settings of a fan give it the same AUTO target in every stage (R43). -/
structure SameAuto (p q : FanSettings) : Prop where
  defaultDir : q.defaultDir = p.defaultDir := by rfl
  standby : q.standby = p.standby := by rfl
  table : tableSpeed q = tableSpeed p := by rfl

/-- The settings of a fan that the doors bring to bear on its target (R126). -/
structure SameDoorSpeeds (p q : FanSettings) : Prop where
  boost : q.boost = p.boost := by rfl
  relief : q.relief = p.relief := by rfl

/-- The settings of a fan give it the same credits and targets (R43, R88, R126). -/
structure SameBearing (p q : FanSettings) : Prop extends SameAuto p q, SameDoorSpeeds p q where
  maxCredits : q.maxCredits = p.maxCredits := by rfl

theorem autoTarget_withStore {s : State} {k : Store} {f : Fin 4} (h : SameAuto (s.fanCfg f) ((s.withStore k).fanCfg f))
    (hp : k.working.controller.pressFan = some f ↔ s.ctl.pressFan = some f) : autoTarget (s.withStore k) f = autoTarget s f := by
  have press : (s.withStore k).ctl.pressFan = some f ↔ s.ctl.pressFan = some f := hp
  simp only [autoTarget, h.defaultDir, h.standby, h.table, press]
  rfl

theorem ComposedAt.withStore {s : State} {k : Store} {f : Fin 4} (h : ComposedAt s f)
    (hf : SameDoorSpeeds (s.fanCfg f) ((s.withStore k).fanCfg f))
    (hp : k.working.controller.pressFan = some f ↔ s.ctl.pressFan = some f) : ComposedAt (s.withStore k) f := by
  have same : composedTarget (s.withStore k) f = composedTarget s f :=
    composedTarget_congr rfl (fun _ => rfl) hp hf.boost hf.relief
  unfold ComposedAt
  rw [same]
  exact h

theorem CapOk.withStore {s : State} {k : Store} (h : CapOk s) (hf : ∀ f, s.ctl.pressFan = some f →
    ((s.withStore k).fanCfg f).relief = (s.fanCfg f).relief) (hp : k.working.controller.pressFan = s.ctl.pressFan) :
    CapOk (s.withStore k) := fun f hf' hr => by
  have press : s.ctl.pressFan = some f := hp ▸ hf'
  rw [hf f press]
  exact h f press hr

theorem InOrder.withStore {s : State} {k : Store} (h : InOrder s) (hs : s.arbiter.holders.length ≤ k.working.controller.slotCount) :
    InOrder (s.withStore k) :=
  ⟨hs, h.holdersOnce, h.suspendedOnce, fun f => PlaceOk.of_fans (s := s) (t := s.withStore k) (fun _ => rfl) rfl rfl (h.places f)⟩

theorem WishesOk.withStore {s : State} {k : Store} (h : WishesOk s)
    (ha : ∀ f, autoTarget (s.withStore k) f = autoTarget s f) : WishesOk (s.withStore k) :=
  ⟨fun hm f => (h.auto hm f).trans (ha f).symm, h.manual, h.incident, h.delays⟩

/-- Other copies of the settings that hold the same slots, pressurisation fan, credits and targets. -/
theorem Keeps.withStore {s : State} {k : Store} (hs : k.working.controller.slotCount = s.ctl.slotCount)
    (hp : k.working.controller.pressFan = s.ctl.pressFan) (hf : ∀ f, SameBearing (s.fanCfg f) ((s.withStore k).fanCfg f))
    (hl : Slotted s → Slotted (s.withStore k)) : Keeps s (s.withStore k) where
  queue := id
  credits h f := (h f).trans_eq (hf f).maxCredits.symm
  lockouts := id
  targets ht hc :=
    ⟨.of_wishes (fun f => .withStore (ht.composed f) (hf f).toSameDoorSpeeds (by rw [hp]))
      (ht.wishes.withStore fun f => autoTarget_withStore (hf f).toSameAuto (by rw [hp])),
      hc.withStore (fun f _ => (hf f).relief) hp⟩
  orders h := h.withStore (h.slots.trans_eq hs.symm)
  slotted := hl
  served _ _ h := ⟨fun k' => h.slotsUsed (k'.trans_eq hs), fun hu f k' => h.urgentServed hu f (hp ▸ k')⟩

/-- The working settings written anew, the stored copy and the snapshot left. -/
theorem Slotted.withSettings {s : State} {p : Settings} (h : Slotted s) (hp : 1 ≤ p.controller.slotCount) :
    Slotted (s.withSettings p) := ⟨hp, h.stored, h.snapshot⟩

theorem Keeps.withSettings {s : State} {p : Settings} (hs : p.controller.slotCount = s.ctl.slotCount)
    (hp : p.controller.pressFan = s.ctl.pressFan) (hf : ∀ f : Fin 4, SameBearing (s.fanCfg f) (p.fans[f]'f.isLt)) :
    Keeps s (s.withSettings p) :=
  .withStore hs hp hf fun h => h.withSettings (h.working.trans_eq hs.symm)

theorem Keeps.withController {s : State} {x : ControllerSettings} (hs : x.slotCount = s.ctl.slotCount := by rfl)
    (hp : x.pressFan = s.ctl.pressFan := by rfl) : Keeps s (s.withSettings { s.settings with controller := x }) :=
  .withSettings hs hp fun _ => {}

/-- The state with fan `f`'s settings replaced. -/
def withFanParams (f : Fin 4) (x : FanSettings) (s : State) : State := s.withSettings (s.settings.withFan f x)

@[simp] theorem withFanParams_fanCfg (s : State) (f : Fin 4) (x : FanSettings) : (withFanParams f x s).fanCfg f = x := by
  simp [withFanParams, State.fanCfg, Settings.withFan]

theorem withFanParams_fanCfg_of_ne {s : State} {f g : Fin 4} (x : FanSettings) (h : g ≠ f) :
    (withFanParams f x s).fanCfg g = s.fanCfg g := by
  have : (f : Nat) ≠ g := fun k => h (Fin.ext k.symm)
  simp [withFanParams, State.fanCfg, Settings.withFan, State.settings, this]

theorem withFanParams_rel {s : State} {f : Fin 4} {x : FanSettings} {R : FanSettings → FanSettings → Prop}
    (refl : ∀ p, R p p) (h : R (s.fanCfg f) x) (g : Fin 4) : R (s.fanCfg g) ((withFanParams f x s).fanCfg g) := by
  by_cases hg : g = f
  · subst hg
    rwa [withFanParams_fanCfg]
  · rw [withFanParams_fanCfg_of_ne x hg]
    exact refl _

theorem withFanParams_composed {s : State} {f : Fin 4} {x : FanSettings} (h : SameDoorSpeeds (s.fanCfg f) x) {g : Fin 4}
    (k : ComposedAt s g) : ComposedAt (withFanParams f x s) g :=
  .withStore k (withFanParams_rel (fun _ => {}) h g) .rfl

theorem withFanParams_autoTarget {s : State} {f : Fin 4} {x : FanSettings} (h : SameAuto (s.fanCfg f) x) (g : Fin 4) :
    autoTarget (withFanParams f x s) g = autoTarget s g :=
  autoTarget_withStore (withFanParams_rel (fun _ => {}) h g) .rfl

theorem withFanParams_capOk {s : State} {f : Fin 4} {x : FanSettings} (h : x.relief = (s.fanCfg f).relief) (k : CapOk s) :
    CapOk (withFanParams f x s) :=
  CapOk.withStore k (fun g _ => withFanParams_rel (R := fun p q => q.relief = p.relief) (fun _ => rfl) h g) rfl

theorem withFanParams_creditsOk {s : State} {f : Fin 4} {x : FanSettings} (h : x.maxCredits = (s.fanCfg f).maxCredits)
    (k : CreditsOk s) : CreditsOk (withFanParams f x s) := fun g =>
  (k g).trans_eq (withFanParams_rel (R := fun p q => p.maxCredits = q.maxCredits) (fun _ => rfl) h.symm g)

theorem withFanParams_keeps {s : State} {f : Fin 4} {x : FanSettings} (h : SameBearing (s.fanCfg f) x) :
    Keeps s (withFanParams f x s) :=
  .withSettings rfl rfl (withFanParams_rel (fun _ => {}) h)

/-! ### A written fan parameter -/

/-- What a fan makes of its own new settings: sound under them, with the credits and the targets looked at by themselves. -/
theorem Keeps.of_fanParams {s t : State} {f : Fin 4} {x : FanSettings} (h : Sound (withFanParams f x s) t)
    (hl : LockoutOk s → LockoutOk t) (hc : CreditsOk s → CreditsOk t)
    (ht : TargetsOk s → CapOk s → TargetsOk t ∧ CapOk t) : Keeps s t where
  queue := h.queued.queueOk
  credits := hc
  lockouts := hl
  targets := ht
  orders k := h.orders (k.withStore k.slots)
  slotted k := (k.withSettings (p := s.settings.withFan f x) k.working).of_store h.store
  served k ho hs := h.served (ho.withStore ho.slots) k.working hs.of_same

/-- A fan's event keeps the cap where the fan is at its composed target (R126, R127). -/
theorem FanEvent.capOk {f : Fin 4} {s t : State} (h : FanEvent f s t) (hf : ComposedAt s f) (k : CapOk s) : CapOk t := by
  intro g hp hr
  by_cases hg : g = f
  · subst hg
    refine h.mild.capOk (fun e he => ?_) k g hp hr
    cases he.symm.trans (h.mild.frame.ctl ▸ hp)
    exact hf
  · rw [h.mild.frame.ctl] at hp
    rw [someDoorRelieving_congr (s := s) fun d => by rw [h.mild.frame.door]] at hr
    rw [h.mild.frame.fanCfg]
    exact (h.lower g hg).trans (k g hp hr)

theorem recompose_capOk {f : Fin 4} {s : State} (h : CapOk s) : CapOk (recompose f s) :=
  (recompose_event f s).capOk (withTarget_composedAt f s) (withTarget_capOk h)

theorem refreshAuto_capOk {f : Fin 4} {s : State} (h : CapOk s) : CapOk (refreshAuto f s) := by
  unfold refreshAuto
  split
  · refine (setModeTarget_event f _ s).capOk (wishing_composed ..) ?_
    rw [wishing_eq]
    exact withFan_capOk {} h
  · exact h

theorem refreshAuto_lockoutOk {f : Fin 4} {s : State} (h : LockoutOk s) : LockoutOk (refreshAuto f s) := by
  by_cases hm : s.modes.mode = .auto
  · exact .of_mode (by simp [(refreshAuto_frame f s).modes, hm])
  · simpa [refreshAuto, hm] using h

/-- Settings that change the AUTO target of a fan alone: the fan takes it (R43). -/
theorem autoParam_wishes {s : State} {f : Fin 4} {x : FanSettings} (k : WishesOk s) :
    WishesOk (refreshAuto f (withFanParams f x s)) := by
  by_cases hm : s.modes.mode = .auto
  · have r := refreshAuto_refreshed (f := f) (s := withFanParams f x s) hm
    have modes : (refreshAuto f (withFanParams f x s)).modes = s.modes := r.frame.modes
    refine ⟨fun _ g => ?_, fun e => ?_, fun e => ?_, fun _ => by rw [modes]; exact k.delays (by simp [hm])⟩
    · rw [autoTarget_congr r.frame.store (by rw [r.frame.demand])]
      by_cases hg : g = f
      · subst hg
        exact r.modeTarget
      · refine ((r.others g hg).trans (k.auto hm g)).trans (Eq.symm ?_)
        have same : SameAuto (s.fanCfg g) ((withFanParams f x s).fanCfg g) := by
          rw [withFanParams_fanCfg_of_ne x hg]
          exact {}
        exact autoTarget_withStore same .rfl
    · simp [modes, hm] at e
    · simp [modes, hm] at e
  · have still : refreshAuto f (withFanParams f x s) = withFanParams f x s := by
      unfold refreshAuto
      exact if_neg hm
    rw [still]
    exact ⟨fun e => absurd e hm, k.manual, k.incident, k.delays⟩

theorem autoParam_keeps {s : State} {f : Fin 4} {x : FanSettings} (hm : x.maxCredits = (s.fanCfg f).maxCredits)
    (hd : SameDoorSpeeds (s.fanCfg f) x) : Keeps s (refreshAuto f (withFanParams f x s)) := by
  have sound := refreshAuto_sound f (withFanParams f x s)
  exact .of_fanParams sound (fun k => refreshAuto_lockoutOk (s := withFanParams f x s) k)
    (fun k => sound.credits (withFanParams_creditsOk hm k)) fun k hc =>
    ⟨.of_wishes (fun g => sound.composed g (withFanParams_composed hd (k.composed g))) (autoParam_wishes k.wishes),
      refreshAuto_capOk (withFanParams_capOk hd.relief hc)⟩

theorem LockoutOk.withParams {s t : State} {f : Fin 4} {x : FanSettings} (h : Steady (withFanParams f x s) t)
    (k : LockoutOk s) : LockoutOk t :=
  LockoutOk.of_steady (s := withFanParams f x s) k h

theorem WishesOk.withParams {s t : State} {f : Fin 4} {x : FanSettings} (h : Steady (withFanParams f x s) t)
    (ha : SameAuto (s.fanCfg f) x) (k : WishesOk s) : WishesOk t :=
  WishesOk.of_steady (WishesOk.withStore k (withFanParams_autoTarget ha)) h

/-- New maximum credits: the count is clamped (R89). -/
theorem maxCredits_keeps {s : State} {f : Fin 4} {x : FanSettings} (ha : SameAuto (s.fanCfg f) x)
    (hd : SameDoorSpeeds (s.fanCfg f) x) :
    Keeps s ((withFanParams f x s).withFan f (((withFanParams f x s).fan f).creditsUnder ((withFanParams f x s).fanCfg f))) := by
  have steady : Steady (withFanParams f x s) ((withFanParams f x s).withFan f
      (((withFanParams f x s).fan f).creditsUnder ((withFanParams f x s).fanCfg f))) :=
    .of_event (f := f) (.withFan (h := { credits := .inl (Nat.min_le_left _ _) }))
  refine .of_fanParams steady.toSound (.withParams steady) (fun k g => ?_) fun k hc =>
    ⟨.of_wishes (fun g => steady.composed g (withFanParams_composed hd (k.composed g))) (k.wishes.withParams steady ha),
      steady.cap (fun g _ => withFanParams_composed hd (k.composed g)) (withFanParams_capOk hd.relief hc)⟩
  rw [fanCfg_of_store steady.store]
  by_cases hg : g = f
  · subst hg
    rw [State.withFan_fan_self, withFanParams_fanCfg]
    exact Nat.min_le_right _ _
  · rw [State.withFan_fan_of_ne _ _ hg, withFanParams_fanCfg_of_ne x hg]
    exact k g

/-- A fan recomposed under new speeds of the doors: it is at its composed target then, the others were before (R126). -/
theorem doorSpeeds_keeps {s u : State} {f : Fin 4} {x : FanSettings} (hm : x.maxCredits = (s.fanCfg f).maxCredits)
    (ha : SameAuto (s.fanCfg f) x) (hu : Steady (withFanParams f x s) u) (hc : CapOk s → CapOk u) :
    Keeps s (recompose f u) := by
  have steady := hu.trans (recompose_steady f u)
  refine .of_fanParams steady.toSound (.withParams steady) (fun k => steady.credits (withFanParams_creditsOk hm k))
    fun k hc' => ⟨.of_wishes (fun g => ?_) (k.wishes.withParams steady ha), recompose_capOk (hc hc')⟩
  by_cases hg : g = f
  · subst hg
    exact recompose_composed ..
  · have same : SameDoorSpeeds (s.fanCfg g) ((withFanParams f x s).fanCfg g) := by
      rw [withFanParams_fanCfg_of_ne x hg]
      exact {}
    exact steady.composed g (.withStore (k.composed g) same .rfl)

/-- A fan that is not the pressurisation fan has no use for the speeds of the doors. -/
theorem doorSpeeds_unused {s : State} {f : Fin 4} {x : FanSettings} (hm : x.maxCredits = (s.fanCfg f).maxCredits)
    (ha : SameAuto (s.fanCfg f) x) (hp : s.ctl.pressFan ≠ some f) : Keeps s (withFanParams f x s) := by
  refine .of_fanParams (.refl _) id (withFanParams_creditsOk hm) fun k hc =>
    ⟨.of_wishes (fun g => ?_) (k.wishes.withParams (.refl _) ha), hc.withStore (fun g hg => ?_) rfl⟩
  · by_cases hg : g = f
    · subst hg
      have composed : (s.fan g).target = (s.fan g).modeTarget := (k.composed g).trans (composedTarget_of_ne hp)
      exact composed.trans (composedTarget_of_ne (s := withFanParams g x s) hp).symm
    · have same : SameDoorSpeeds (s.fanCfg g) ((withFanParams f x s).fanCfg g) := by
        rw [withFanParams_fanCfg_of_ne x hg]
        exact {}
      exact .withStore (k.composed g) same .rfl
  · have : g ≠ f := fun e => hp (e ▸ hg)
    exact congrArg FanSettings.relief (withFanParams_fanCfg_of_ne x this)

theorem boost_keeps {s : State} {f : Fin 4} {x : FanSettings} (hm : x.maxCredits = (s.fanCfg f).maxCredits)
    (ha : SameAuto (s.fanCfg f) x) (hr : x.relief = (s.fanCfg f).relief) :
    Keeps s (if s.ctl.pressFan = some f then recompose f (withFanParams f x s) else withFanParams f x s) := by
  split
  · exact doorSpeeds_keeps hm ha (.refl _) (withFanParams_capOk hr)
  · next hp => exact doorSpeeds_unused hm ha hp

/-- A relief speed lowered while a door relieves clamps the fan before it is recomposed (R126, R127). -/
theorem relief_keeps {s : State} {f : Fin 4} {x : FanSettings} (hm : x.maxCredits = (s.fanCfg f).maxCredits)
    (ha : SameAuto (s.fanCfg f) x) : Keeps s (reliefChanged f s.settings (withFanParams f x s)) := by
  unfold reliefChanged
  split
  · next hp =>
    refine doorSpeeds_keeps hm ha (.of_event (clampIf_event _ f _)) fun k => clampIf_capOk hp fun hb hr => ?_
    simp only [hr, Bool.true_and, decide_eq_false_iff_not, Nat.not_lt] at hb
    have := k f hp hr
    have held : (s.fanCfg f).relief ≤ ((withFanParams f x s).fanCfg f).relief := hb
    exact this.trans (Nat.mul_le_mul_right _ held)
  · next hp => exact doorSpeeds_unused hm ha hp

end Sys2Proof.Machine
end

section
/-! Every write of a setting, by SET_PARAM, keeps the invariants of O56 to O58 (R174). -/

namespace Sys2Proof.Machine

/-! ### A fan's parameters (R62, R89) -/

theorem fanChanged_keeps {s : State} {f : Fin 4} {x : FanSettings} {index v : Nat} (hi : index < 22)
    (h : (s.fanCfg f).write index v = .ok x) : Keeps s (fanChanged f index s.settings (withFanParams f x s)) := by
  match index, hi, h with
  | 0, _, h =>
    obtain ⟨d, _, hd⟩ := coded_eq_ok h
    cases Except.ok.inj hd
    exact autoParam_keeps rfl {}
  | 1, _, h | 2, _, h | 3, _, h | 4, _, h | 19, _, h =>
    cases ranged_eq_ok h
    exact autoParam_keeps rfl {}
  | 5, _, h | 6, _, h | 18, _, h =>
    cases ranged_eq_ok h
    exact withFanParams_keeps {}
  | 10, _, h | 11, _, h =>
    cases dividing_eq_ok h
    exact withFanParams_keeps {}
  | 7, _, h | 8, _, h =>
    cases ranged_eq_ok h
    exact (withFanParams_keeps {}).trans (.of_event (coastTest_event ..))
  | 9, _, h =>
    cases ranged_eq_ok h
    exact (withFanParams_keeps {}).trans (.of_event (pulsesChanged_event ..))
  | 12, _, h | 13, _, h =>
    cases ranged_eq_ok h
    exact (withFanParams_keeps {}).trans (.of_event (testStartPhase_event ..))
  | 14, _, h =>
    cases ranged_eq_ok h
    exact (withFanParams_keeps {}).trans (.of_event (verifyWindowExpiry_event ..))
  | 15, _, h =>
    cases ranged_eq_ok h
    exact (withFanParams_keeps {}).trans (.of_event (startLimitWritten_event ..))
  | 16, _, h =>
    cases ranged_eq_ok h
    exact maxCredits_keeps {} {}
  | 17, _, h =>
    cases ranged_eq_ok h
    exact (withFanParams_keeps {}).trans (.of_event (intervalChanged_event ..))
  | 20, _, h =>
    cases ranged_eq_ok h
    exact boost_keeps rfl {} rfl
  | 21, _, h =>
    cases ranged_eq_ok h
    exact relief_keeps rfl {}
  | n + 22, hi, _ => exact absurd hi (by omega)

/-! ### The pressurisation fan (R46, R83, R127) -/

theorem retarget_sound (f : Fin 4) (s : State) : Sound s (retarget f s) := by
  unfold retarget
  split
  · exact refreshAuto_sound f s
  · exact (recompose_steady f s).toSound

theorem retarget_composed (f : Fin 4) (s : State) : ComposedAt (retarget f s) f := by
  unfold retarget
  split
  · next h => exact (refreshAuto_refreshed h).composed
  · exact recompose_composed f s

theorem retarget_capOk {f : Fin 4} {s : State} (h : CapOk s) : CapOk (retarget f s) := by
  unfold retarget
  split
  · exact refreshAuto_capOk h
  · exact recompose_capOk h

theorem retarget_lockoutOk {f : Fin 4} {s : State} (h : LockoutOk s) : LockoutOk (retarget f s) := by
  unfold retarget
  split
  · exact refreshAuto_lockoutOk h
  · exact h.of_steady (recompose_steady f s)

/-- What the wishes of the fans and their modes keep while the fans named by the old and the new parameter are retargeted, outside
AUTO. -/
theorem retarget_wishes {f : Fin 4} {s : State} (h : s.modes.mode ≠ .auto) : Steady s (retarget f s) := by
  simp only [retarget, h, if_false]
  exact recompose_steady f s

theorem retargetAll_steady {l : List (Fin 4)} {s : State} (h : s.modes.mode ≠ .auto) :
    Steady s (takeInAnyOrder l retarget s) :=
  takeInAnyOrder_rel (fun s t => s.modes.mode ≠ .auto → Steady s t) (fun s _ => .refl s)
    (fun s t u a b k => (a k).trans (b (by rw [(a k).frame.modes]; exact k))) (fun s _ => .nextChoice s) retarget
    (fun _ _ => retarget_wishes) l s h

theorem retargetAll_autoTarget {l : List (Fin 4)} {s : State} (hm : s.modes.mode = .auto) {f : Fin 4}
    (h : f ∈ l ∨ (s.fan f).modeTarget = autoTarget s f) :
    ((takeInAnyOrder l retarget s).fan f).modeTarget = autoTarget (takeInAnyOrder l retarget s) f := by
  refine takeInAnyOrder_est (I := fun u => u.modes.mode = .auto) (P := fun f u => (u.fan f).modeTarget = autoTarget u f)
    (fun _ => id) (fun _ _ => id) (fun g u hu => by rw [(retarget_frame g u).modes]; exact hu) (fun g u hu => ?_)
    (fun f g u hu hf => ?_) hm h
  · have r := refreshAuto_refreshed (f := g) hu
    simp only [retarget, hu, if_true]
    rw [r.modeTarget, autoTarget_congr r.frame.store (by rw [r.frame.demand])]
  · have r := refreshAuto_refreshed (f := g) hu
    simp only [retarget, hu, if_true]
    rw [autoTarget_congr r.frame.store (by rw [r.frame.demand])]
    by_cases hg : f = g
    · subst hg
      exact r.modeTarget
    · rw [r.others f hg]
      exact hf

/-- The fan that is now the pressurisation fan clamped while a door relieves. -/
def pressClamped (s : State) : State :=
  match s.ctl.pressFan with
  | some f => clampIf (someDoorRelieving s) f s
  | none => s

theorem pressFanChanged_eq (old : Option (Fin 4)) (s : State) : pressFanChanged old s =
    reviewUrgency (takeInAnyOrder (namedFans old (pressClamped s).ctl.pressFan) retarget (pressClamped s)) := by
  unfold pressFanChanged pressClamped clampIf
  rfl

theorem pressClamped_steady (s : State) : Steady s (pressClamped s) := by
  unfold pressClamped
  split
  · exact .of_event (clampIf_event ..)
  · exact .refl s

theorem pressClamped_capOk (s : State) : CapOk (pressClamped s) := by
  unfold pressClamped
  split
  · next f hp => exact clampIf_capOk hp fun hb hr => by simp [hb] at hr
  · next hp => exact fun f h => by simp [hp] at h

/-- The state with another pressurisation fan named. -/
def withPressFan (p : Option (Fin 4)) (s : State) : State :=
  s.withSettings { s.settings with controller := { s.settings.controller with pressFan := p } }

theorem not_named {s : State} {p : Option (Fin 4)} {f : Fin 4} (h : f ∉ namedFans s.ctl.pressFan p) :
    s.ctl.pressFan ≠ some f ∧ p ≠ some f := by
  simp only [namedFans, List.mem_filter, mem_allFans, true_and, Bool.or_eq_true, beq_iff_eq, not_or] at h
  exact ⟨fun e => h.1 e.symm, fun e => h.2 e.symm⟩

theorem withPressFan_autoTarget {s : State} {p : Option (Fin 4)} {f : Fin 4} (h : f ∉ namedFans s.ctl.pressFan p) :
    autoTarget (withPressFan p s) f = autoTarget s f := by
  obtain ⟨hs, hp⟩ := not_named h
  exact autoTarget_withStore {} ⟨fun k => absurd k hp, fun k => absurd k hs⟩

theorem withPressFan_composed {s : State} {p : Option (Fin 4)} {f : Fin 4} (h : f ∉ namedFans s.ctl.pressFan p)
    (k : ComposedAt s f) : ComposedAt (withPressFan p s) f := by
  obtain ⟨hs, hp⟩ := not_named h
  exact .withStore k {} ⟨fun k => absurd k hp, fun k => absurd k hs⟩

/-- The fans of the old and the new parameter retargeted, with the clamp behind them. -/
def pressRetargeted (p : Option (Fin 4)) (s : State) : State :=
  takeInAnyOrder (namedFans s.ctl.pressFan p) retarget (pressClamped (withPressFan p s))

theorem pressRetargeted_sound (p : Option (Fin 4)) (s : State) : Sound (withPressFan p s) (pressRetargeted p s) :=
  (pressClamped_steady _).toSound.trans (.takeInAnyOrder retarget_sound ..)

theorem pressRetargeted_frame (p : Option (Fin 4)) (s : State) : DoorFrame (withPressFan p s) (pressRetargeted p s) :=
  (pressClamped_steady _).frame.trans (FanFrame.takeInAnyOrder retarget retarget_frame _ _).doorFrame

theorem pressRetargeted_composed {p : Option (Fin 4)} {s : State} (k : TargetsOk s) (f : Fin 4) :
    ComposedAt (pressRetargeted p s) f := by
  refine takeInAnyOrder_est (I := fun _ => True) (P := fun f u => ComposedAt u f) (fun _ => id) (fun _ _ => id)
    (fun _ _ => id) (fun g u _ => retarget_composed g u) (fun f g u _ => (retarget_sound g u).composed f) trivial ?_
  by_cases hf : f ∈ namedFans s.ctl.pressFan p
  · exact .inl hf
  · exact .inr ((pressClamped_steady _).composed f (withPressFan_composed hf (k.composed f)))

theorem pressRetargeted_wishes {p : Option (Fin 4)} {s : State} (k : TargetsOk s) : WishesOk (pressRetargeted p s) := by
  have clamped := pressClamped_steady (withPressFan p s)
  have modes : (pressRetargeted p s).modes = s.modes := (pressRetargeted_frame p s).modes
  by_cases hm : s.modes.mode = .auto
  · refine ⟨fun _ f => retargetAll_autoTarget (clamped.frame.modes ▸ hm) ?_, fun e => ?_, fun e => ?_,
      fun _ => by rw [modes]; exact k.delays (by simp [hm])⟩
    · by_cases hf : f ∈ namedFans s.ctl.pressFan p
      · exact .inl hf
      · refine .inr ((clamped.wishes f).1.trans ((k.auto hm f).trans ?_))
        rw [autoTarget_congr clamped.store (by rw [clamped.frame.demand]), withPressFan_autoTarget hf]
    · simp [modes, hm] at e
    · simp [modes, hm] at e
  · have steady : Steady (withPressFan p s) (pressRetargeted p s) :=
      clamped.trans (retargetAll_steady (by rw [clamped.frame.modes]; exact hm))
    exact WishesOk.of_steady (s := withPressFan p s) ⟨fun e => absurd e hm, k.manual, k.incident, k.delays⟩ steady

theorem pressRetargeted_capOk (p : Option (Fin 4)) (s : State) : CapOk (pressRetargeted p s) :=
  takeEach_inv CapOk retarget (fun _ _ => retarget_capOk) _ _ (pressClamped_capOk _)

theorem pressRetargeted_lockoutOk {p : Option (Fin 4)} {s : State} (k : LockoutOk s) : LockoutOk (pressRetargeted p s) :=
  takeEach_inv LockoutOk retarget (fun _ _ => retarget_lockoutOk) _ _
    (LockoutOk.of_steady (s := withPressFan p s) k ((pressClamped_steady _).trans (.nextChoice _)))

/-- Another pressurisation fan named: the fans concerned are retargeted, and the arbiter serves under the new urgency. -/
theorem pressFan_keeps (p : Option (Fin 4)) (s : State) : Keeps s (pressFanChanged s.ctl.pressFan (withPressFan p s)) := by
  have sound := pressRetargeted_sound p s
  have review := reviewUrgency_steady (pressRetargeted p s)
  have eq : pressFanChanged s.ctl.pressFan (withPressFan p s) = reviewUrgency (pressRetargeted p s) := by
    rw [pressFanChanged_eq, ctl_of_store (pressClamped_steady (withPressFan p s)).store]
    rfl
  have store := review.store.trans sound.store
  rw [eq]
  exact {
    queue := (sound.queued.trans review.queued).queueOk
    credits := fun k => review.credits (sound.credits k)
    lockouts := fun k => (pressRetargeted_lockoutOk k).of_steady review
    targets := fun k _ => ⟨.of_wishes (fun f => review.composed f (pressRetargeted_composed k f))
      ((pressRetargeted_wishes k).of_steady review),
      review.cap (fun f _ => pressRetargeted_composed k f) (pressRetargeted_capOk p s)⟩
    orders := fun k => review.orders (sound.orders (k.withStore k.slots))
    slotted := fun k => (k.withSettings (p := (withPressFan p s).settings) k.working).of_store store
    served := fun k _ _ => serve_served (s := evaluateUrgency (pressRetargeted p s)) (by
      rw [show (evaluateUrgency (pressRetargeted p s)).ctl = _ from ctl_of_store sound.store]
      exact k.working) }

/-! ### The other parameters (R18, R30, R79, R87, R115, R145, R155, R174) -/

/-- The slot count is written while nobody holds a grant, when nobody asks for one either (R81, R87). -/
theorem slotCount_keeps {s : State} {n : Nat} (hn : 1 ≤ n) (h : s.arbiter.holders = []) : Keeps s (s.withSettings
    { s.settings with controller := { s.settings.controller with slotCount := n } }) where
  queue := id
  credits := id
  lockouts := id
  targets ht hc := ⟨⟨ht.composed, ht.auto, ht.manual, ht.incident, ht.delays⟩, hc⟩
  orders k := k.withStore (by simp [h])
  slotted k := k.withSettings hn
  served k _ hs := .of_noRequest (hs.slotsUsed (by rw [h]; exact k.working))

theorem testLink_keeps (s : State) : Keeps s (testLink s) := by
  unfold testLink
  split
  · exact linkExpires_keeps s
  · exact .refl s

theorem stationChanged_keeps (s : State) : Keeps s (stationChanged s) := by
  unfold stationChanged
  split
  · exact .of_same
  · exact .refl s

theorem controllerChanged_keeps {s : State} {x : ControllerSettings} {index v : Nat} (hi : index < 6)
    (hb : index = 1 → s.arbiter.holders = []) (h : s.ctl.write index v = .ok x) :
    Keeps s (controllerChanged index s.settings (s.withSettings { s.settings with controller := x })) := by
  match index, hi, hb, h with
  | 0, _, _, h =>
    cases ranged_eq_ok h
    exact Keeps.trans .withController (testLink_keeps _)
  | 1, _, hb, h =>
    have hn := le_of_ranged h
    cases ranged_eq_ok h
    exact slotCount_keeps hn (hb rfl)
  | 2, _, _, h =>
    obtain ⟨m, _, hm⟩ := coded_eq_ok h
    cases Except.ok.inj hm
    exact Keeps.withController
  | 3, _, _, h =>
    cases ranged_eq_ok h
    exact Keeps.withController
  | 4, _, _, h =>
    obtain ⟨p, _, hp⟩ := coded_eq_ok h
    cases Except.ok.inj hp
    exact pressFan_keeps p s
  | 5, _, _, h =>
    cases ranged_eq_ok h
    exact Keeps.trans .withController (stationChanged_keeps _)

theorem Keeps.withChannelSettings (c : Fin 8) (x : ChannelSettings) (s : State) :
    Keeps s (s.withSettings (s.settings.withChannel c x)) := .withSettings rfl rfl fun _ => {}

theorem Keeps.withDoorSettings (d : Fin 2) (x : DoorSettings) (s : State) :
    Keeps s (s.withSettings (s.settings.withDoor d x)) := .withSettings rfl rfl fun _ => {}

theorem channelChanged_keeps (c : Fin 8) (index : Nat) (s : State) : Keeps s (channelChanged c index s) := by
  unfold channelChanged substituteChanged
  split
  · exact recomputeDemand_keeps s
  · split
    · exact setLevel_keeps ..
    · exact .refl s
  · exact recomputeDemand_keeps s
  · exact .refl s

theorem acceptWrite_keeps {s : State} {u : UnitName} {index v : Nat} {p : Settings} (hi : index < indexCount u)
    (hb : slotCountBusy s u index = false) (h : s.settings.write u index v = .ok p) : Keeps s (acceptWrite u index p s) := by
  unfold acceptWrite
  split
  · exact .refl s
  · cases u with
    | controller =>
      obtain ⟨x, hx, rfl⟩ := exists_of_map_eq_ok h
      refine controllerChanged_keeps hi (fun e => ?_) hx
      simpa [slotCountBusy, e] using hb
    | channel c =>
      obtain ⟨x, _, rfl⟩ := exists_of_map_eq_ok h
      exact (Keeps.withChannelSettings ..).trans (channelChanged_keeps ..)
    | fan f =>
      obtain ⟨x, hx, rfl⟩ := exists_of_map_eq_ok h
      exact fanChanged_keeps hi hx
    | door d =>
      obtain ⟨x, _, rfl⟩ := exists_of_map_eq_ok h
      exact (Keeps.withDoorSettings ..).trans (.of_steps (doorChanged_steps ..))

theorem writeParam_keeps {s t : State} {u : UnitName} {index v : Nat} (hi : index < indexCount u)
    (h : writeParam u index v s = .ok t) : Keeps s t := by
  unfold writeParam at h
  split at h
  · cases h
  · split at h
    · cases h
    · next hw =>
      split at h
      · cases h
      · next hb =>
        cases h
        exact acceptWrite_keeps hi (Bool.eq_false_iff.mpr hb) hw

/-! ### Active flags, scenario records and the stored copy (R134, R155, R175, R177) -/

theorem withActive_keeps (u : UnitName) (on : Bool) (s : State) :
    Keeps s (s.withSettings (s.settings.withActive u on)) := by
  cases u with
  | controller => exact .of_same
  | channel c => exact .withChannelSettings ..
  | fan f => exact withFanParams_keeps {}
  | door d => exact .withDoorSettings ..

theorem withScenario_keeps (n : Nat) (r : ScenarioRecord) (s : State) :
    Keeps s (s.withSettings (s.settings.withScenario n r)) := by
  unfold Settings.withScenario
  split
  · exact .withSettings rfl rfl fun _ => {}
  · exact .of_same

theorem Store.written_working (t : Store) (p : Settings) (agrees : Bool) (k : Nat) :
    (t.written p agrees k).working = t.working := by
  unfold Store.written
  split <;> rfl

theorem Store.written_snapshot (t : Store) (p : Settings) (agrees : Bool) (k : Nat) :
    (t.written p agrees k).snapshot = none := by
  unfold Store.written
  split <;> rfl

theorem Store.written_slots {t : Store} {p : Settings} {agrees : Bool} {k : Nat} (hp : 1 ≤ p.controller.slotCount)
    (h : (t.written p agrees k).storedValid = true) : 1 ≤ (t.written p agrees k).stored.controller.slotCount := by
  cases agrees
  · exact torn_slotCount h
  · exact hp

theorem finishWrite_keeps (agrees : Bool) (s : State) : Keeps s (finishWrite agrees s) := by
  unfold finishWrite
  split
  · next p hp =>
    have working := s.store.written_working p agrees s.choice
    have fans (f : Fin 4) : (s.withStore (s.store.written p agrees s.choice)).fanCfg f = s.fanCfg f :=
      congrArg (fun w : Settings => w.fans[f]'f.isLt) working
    have slotted (k : Slotted s) : Slotted (s.withStore (s.store.written p agrees s.choice)) :=
      ⟨k.working.trans_eq (congrArg (fun w : Settings => w.controller.slotCount) working.symm),
        Store.written_slots (k.snapshot p hp),
        fun q some => absurd ((s.store.written_snapshot p agrees s.choice).symm.trans some) (Option.some_ne_none q).symm⟩
    refine ((Keeps.withStore ?_ ?_ (fun f => ?_) slotted).trans (.of_steady (.nextChoice _))).trans (.report ..)
    · exact congrArg (fun w : Settings => w.controller.slotCount) working
    · exact congrArg (fun w : Settings => w.controller.pressFan) working
    · rw [fans]
      exact {}
  · exact .refl s

end Sys2Proof.Machine
end

section
/-! The resets and the passing of time keep the invariants of O56 to O58 (R42, R64, R65, R92, R169, R172, R178, R179). -/

namespace Sys2Proof.Machine

/-! ### A started part -/

/-- A fan as either reset starts it: it neither drives nor asks for a grant, at rest, its credits within their maximum. -/
structure FanStarts (p : FanSettings) (x : Fan) : Prop where
  still : busyState x.state = false
  calm : x.creditWait = false
  atRest : x.reference = 0
  credits : x.credits ≤ p.maxCredits

theorem Fan.started_starts (p : FanSettings) (fault pin : Bool) : FanStarts p (Fan.started p fault pin) := by
  refine ⟨?_, rfl, rfl, Nat.le_refl _⟩
  unfold Fan.started
  cases p.active <;> rfl

theorem Fan.intervalTested_starts {p : FanSettings} {x : Fan} (h : FanStarts p x) : FanStarts p (x.intervalTested p) := by
  unfold Fan.intervalTested
  split
  · exact ⟨h.still, h.calm, h.atRest, Nat.min_le_left _ _⟩
  · exact h

theorem Fan.restarted_starts (p : FanSettings) (fault pin : Bool) (x : Fan) : FanStarts p (Fan.restarted p fault pin x) := by
  refine Fan.intervalTested_starts ⟨?_, rfl, rfl, Nat.min_le_right _ _⟩
  dsimp only [Fan.creditsUnder]
  split
  · rfl
  · exact (Fan.started_starts p fault pin).still

/-- What the blocks of a reset find once the settings, the fans, the doors and the lines are in place. -/
structure Starts (s : State) : Prop where
  fans : ∀ f, FanStarts (s.fanCfg f) (s.fan f)
  doors : ∀ d, (s.door d).state ≠ .relieving
  queue : QueueOk s

/-- The blocks of a reset before the fans' targets are composed. -/
def startingBlocks (s : State) : State :=
  { s with
    channels := startedChannels s.settings
    demand := { stage := 0, floor := 0 }
    arbiter := Arbiter.started
    modes := ModeControl.started }

theorem startTarget_eq (f : Fin 4) (s : State) : startTarget f s = wishing f (autoTarget s f) s := rfl

theorem startBlocks_eq (s : State) : startBlocks s = evaluateUrgency (takeEach allFans startTarget (startingBlocks s)) := rfl

theorem startTargets_sound (s : State) : Sound s (takeEach allFans startTarget s) :=
  .takeEach (fun f s => startTarget_eq f s ▸ wishing_sound ..) _ s

theorem startTarget_modeTarget (f : Fin 4) (s : State) : ((startTarget f s).fan f).modeTarget = autoTarget s f := by
  simp [startTarget_eq, wishing_eq]

theorem startTarget_fan_of_ne {f g : Fin 4} (s : State) (h : g ≠ f) : (startTarget f s).fan g = s.fan g := by
  rw [startTarget_eq, wishing_eq, State.withFan_fan_of_ne _ _ h]

theorem startTargets_frame (s : State) : FanFrame s (takeEach allFans startTarget s) :=
  .takeEach _ startTarget_frame allFans s

theorem startTargets_arbiter (s : State) : (takeEach allFans startTarget s).arbiter = s.arbiter :=
  takeEach_rel (fun s t => t.arbiter = s.arbiter) (fun _ => rfl) (fun _ _ _ a b => b.trans a) startTarget (fun _ _ => rfl)
    allFans s

theorem startTargets_composed (s : State) (f : Fin 4) : ComposedAt (takeEach allFans startTarget s) f :=
  takeEach_all (fun _ => True) (fun f u => ComposedAt u f) (fun _ _ => id)
    (fun g u _ => startTarget_eq g u ▸ wishing_composed ..)
    (fun f g u _ => (startTarget_eq g u ▸ wishing_sound g (autoTarget u g) u).composed f) allFans trivial f (mem_allFans f)

theorem startTargets_modeTarget (s : State) (f : Fin 4) : ((takeEach allFans startTarget s).fan f).modeTarget =
    autoTarget (takeEach allFans startTarget s) f := by
  refine takeEach_all (fun _ => True) (fun f u => (u.fan f).modeTarget = autoTarget u f) (fun _ _ => id)
    (fun g u _ => startTarget_modeTarget g u) (fun f g u _ h => ?_) allFans trivial f (mem_allFans f)
  by_cases hg : f = g
  · subst hg
    exact startTarget_modeTarget ..
  · rw [startTarget_fan_of_ne u hg]
    exact h

theorem Starts.inOrder {s : State} (h : Starts s) : InOrder (startingBlocks s) := by
  refine ⟨Nat.zero_le _, .nil, .nil, fun f => ?_⟩
  obtain ⟨still, calm, atRest, _⟩ := h.fans f
  simp only [busyState, Bool.or_eq_false_iff, beq_eq_false_iff_ne] at still
  refine .of_unserved ⟨nofun, ?_, nofun⟩ calm still.2 (fun _ => atRest) fun _ => still.1
  simp [startingBlocks, Arbiter.started]

/-- Both resets end in a part that meets every invariant of O56 to O58. -/
theorem startBlocks_keeps {s u : State} (h : Starts u) (hl : Slotted s → Slotted u) : Keeps s (startBlocks u) := by
  rw [startBlocks_eq]
  have sound := startTargets_sound (startingBlocks u)
  have frame := startTargets_frame (startingBlocks u)
  have arbiter := startTargets_arbiter (startingBlocks u)
  have composed := startTargets_composed (startingBlocks u)
  have modeTarget := startTargets_modeTarget (startingBlocks u)
  generalize takeEach allFans startTarget (startingBlocks u) = v at sound frame arbiter composed modeTarget ⊢
  have urgent := evaluateUrgency_mild v
  have mode : (evaluateUrgency v).modes = ModeControl.started := by rw [urgent.frame.modes, frame.modes]; rfl
  have noRequest : NoRequest (evaluateUrgency v) := by
    have started : v.arbiter = Arbiter.started := arbiter
    unfold NoRequest
    rw [evaluateUrgency, State.withArbiter_arbiter, started]
    exact ⟨fun f => by simp [Arbiter.started], rfl⟩
  have relieving : someDoorRelieving (evaluateUrgency v) = false := by
    simp only [someDoorRelieving, List.any_eq_false, beq_iff_eq]
    intro d _
    rw [urgent.frame.door, frame.door]
    exact h.doors d
  refine ⟨fun _ => ?_, fun _ => ?_, fun _ => .of_mode (by rw [mode]; nofun), fun _ _ => ⟨⟨fun f => ?_, fun _ f => ?_, fun e => ?_,
    fun e => ?_, fun _ f ms => ?_⟩, fun f _ hr => ?_⟩, fun _ => ?_, fun k => (hl k).of_store ?_, fun _ _ _ => .of_noRequest noRequest⟩
  · exact (sound.queued.trans urgent.frame.queued).queueOk h.queue
  · exact urgent.creditsOk (sound.credits fun f => (h.fans f).credits)
  · exact urgent.composedAt (composed f)
  · exact modeTarget f
  · simp [mode, ModeControl.started] at e
  · simp [mode, ModeControl.started] at e
  · simp [mode, ModeControl.started]
  · simp [relieving] at hr
  · exact evaluateUrgency_inOrder (sound.orders h.inOrder)
  · exact urgent.frame.store.trans sound.store

theorem ReportQueue.started_queueOk {s : State} {warm valid : Bool} (h : s.reports = ReportQueue.started warm valid) : QueueOk s := by
  unfold QueueOk
  rw [h]
  exact ⟨by simp [ReportQueue.started], by simp [ReportQueue.started]⟩

/-! ### The settings that a reset loads (R178, R179) -/

theorem cutWrite_stored {s : State} (h : Slotted s) : (cutWrite s).store.storedValid = true →
    1 ≤ (cutWrite s).store.stored.controller.slotCount := by
  unfold cutWrite
  split
  · exact torn_slotCount
  · exact h.stored

theorem powerOnReset_keeps (straps : Straps) (pins : Pins) (s : State) : Keeps s (powerOnReset straps pins s) := by
  unfold powerOnReset
  refine startBlocks_keeps ⟨forallFans ?_ ?_ ?_ ?_, Fin.forall_fin_two.mpr ⟨?_, ?_⟩, ReportQueue.started_queueOk rfl⟩ fun k =>
    ⟨loaded_slotCount (cutWrite_stored k), cutWrite_stored k, fun p some => absurd some.symm (Option.some_ne_none p)⟩
  iterate 4 exact Fan.started_starts ..
  iterate 2 exact Door.poweredOn_ne_relieving _ _

theorem runWrite_keeps (s : State) : Keeps s (runWrite s) := by
  unfold runWrite
  split
  · exact finishWrite_keeps ..
  · exact .refl s

theorem warmReset_keeps (pins : Pins) (s : State) : Keeps s (warmReset pins s) := by
  unfold warmReset
  refine (runWrite_keeps s).trans (startBlocks_keeps ⟨forallFans ?_ ?_ ?_ ?_, Fin.forall_fin_two.mpr ⟨?_, ?_⟩,
    ReportQueue.started_queueOk rfl⟩ fun k => ⟨loaded_slotCount k.stored, k.stored,
      fun p some => absurd some.symm (Option.some_ne_none p)⟩)
  iterate 4 exact Fan.restarted_starts ..
  iterate 2 exact Door.restarted_ne_relieving _ _ _

theorem resetAfterReply_keeps (s : State) : Keeps s (resetAfterReply s) :=
  Keeps.trans (.of_steady (.nextChoice s)) (warmReset_keeps ..)

theorem warmResetDue_keeps (pins : Pins) (s : State) : Keeps s (warmResetDue pins s) := by
  unfold warmResetDue
  split
  · exact warmReset_keeps ..
  · exact .refl s

/-! ### Time (R54, R89, R137, R169) -/

/-- The report queue replaced: it alone is looked at. -/
theorem Keeps.withReports {s : State} {q : ReportQueue} (h : QueueOk s → QueueOk (s.withReports q)) :
    Keeps s (s.withReports q) where
  queue := h
  credits := id
  lockouts := id
  targets ht hc := ⟨⟨ht.composed, ht.auto, ht.manual, ht.incident, ht.delays⟩, hc⟩
  orders k := ⟨k.slots, k.holdersOnce, k.suspendedOnce, fun f => (k.places f).of_same rfl rfl rfl rfl fun _ => Nat.le_refl _⟩
  slotted k := ⟨k.working, k.stored, k.snapshot⟩
  served _ _ k := k.of_same

/-- A fan with nothing changed that the invariants read. -/
structure SameWishes (x y : Fan) : Prop extends SameFan x y where
  target : y.target = x.target := by rfl
  modeTarget : y.modeTarget = x.modeTarget := by rfl
  setpoint : y.setpoint = x.setpoint := by rfl

theorem tickFan_same (x : Fan) : SameWishes x (tickFan x) := by
  unfold tickFan
  dsimp only
  split <;> exact {}

/-- Fans, doors and queue in which nothing changes that the invariants read of them. -/
theorem Sound.of_calm {s t : State} (hf : ∀ f, SameWishes (s.fan f) (t.fan f)) (ha : t.arbiter = s.arbiter)
    (hp : t.store = s.store) (hd : ∀ d, (t.door d).state = (s.door d).state) (hs : t.stop.asserted = s.stop.asserted)
    (hq : t.reports = s.reports) : Sound s t where
  store := hp
  queued := hq ▸ .refl _
  credits k f := by rw [(hf f).credits, fanCfg_of_store hp]; exact k f
  composed f k := by
    unfold ComposedAt
    rw [composedTarget_congr (hf f).modeTarget hd (by rw [ctl_of_store hp]) (by rw [fanCfg_of_store hp])
      (by rw [fanCfg_of_store hp]), (hf f).target]
    exact k
  cap _ k f := by
    rw [ctl_of_store hp, someDoorRelieving_congr hd, (hf f).reference, fanCfg_of_store hp]
    exact k f
  orders k := ⟨by rw [ha, ctl_of_store hp]; exact k.slots, by rw [ha]; exact k.holdersOnce, by rw [ha]; exact k.suspendedOnce,
    fun f => (k.places f).of_same ha hs (hf f).state (hf f).creditWait fun _ => (hf f).reference.le⟩
  served _ _ k := k.of_same ha (ctl_of_store hp)

theorem advanceTimers_keeps (s : State) : Keeps s (advanceTimers s) := by
  have fans (f : Fin 4) : SameWishes (s.fan f) ((advanceTimers s).fan f) := advanceTimers_fan s f ▸ tickFan_same _
  refine Keeps.trans (t := s.withReports (tickReports s.reports)) (.withReports id) (.of_sound (.of_calm fans rfl rfl
    (fun d => by rw [advanceTimers_door]; rfl) rfl rfl) (fun k hm f he hl => k hm f he ((fans f).state.symm.trans hl)) fun k => ?_)
  refine ⟨fun hm f => ?_, fun hm f t ht => ?_, fun hm f => ?_, fun hm f ms => ?_⟩
  · exact (fans f).modeTarget.trans (k.auto hm f)
  · exact (fans f).modeTarget.trans (k.manual hm f t ((fans f).setpoint.symm.trans ht))
  · rw [incidentTarget_tick (s := s) rfl (fans f).modeTarget]
    exact (fans f).modeTarget.trans (k.incident hm f)
  · have still : (advanceTimers s).modes.delays[f]'f.isLt = s.modes.delays[f]'f.isLt :=
      (tickModes_delays _ f).trans (tickDelay_running _ (k.delays hm f))
    rw [still]
    exact k.delays hm f ms

theorem hunting_keeps (s : State) : Keeps s (hunting s) := .of_same

theorem expiryAct_keeps (e : Expiry) (s : State) : Keeps s (e.act s) := by
  cases e with
  | coast f => exact .of_event (coastTest_event ..)
  | startLimit f => exact .of_event (startLimitExpiry_event ..)
  | verify f => exact .of_event (verifyWindowExpiry_event ..)
  | credit f => exact .of_event (creditRegeneration_event ..)
  | tach f => exact .of_event (tachTimeout_event ..)
  | edge f => exact .of_event (tachTakesSamples_event f 50 s)
  | delay f => exact startDelayExpiry_keeps ..
  | settle d => exact .of_steps (settleExpiry_steps ..)
  | travelStep d => exact .of_steps (testTravel_steps ..)
  | travel d => exact .of_steps (travelTimeout_steps ..)
  | hold d => exact .of_steps (holdOpenExpiry_steps ..)
  | reopen d => exact .of_steps (reopenExpiry_steps ..)
  | blind d => exact .of_steps (reliefEnds_steps ..)
  | relief d => exact .of_steps (reliefEnds_steps ..)
  | link => exact linkTimeout_keeps s
  | gap => exact hunting_keeps s
  | stop => exact stopAsserted_keeps s
  | escape => exact escapeAsserted_keeps s
  | maint => exact maintAsserted_keeps s

theorem tick_keeps (s : State) : Keeps s (tick s) := by
  refine (advanceTimers_keeps s).trans (.takeInAnyOrder (fun e s => ?_) _ _)
  unfold Expiry.take
  split
  · exact expiryAct_keeps e s
  · exact .refl s

end Sys2Proof.Machine
end

section
/-! Settles O56 to O58: the niche line, its requests, every command and the idle step keep the queue, the credits and the lockouts,
the targets and the cap, and the order of the feed arbiter with its service. -/

namespace Sys2Proof.Machine

/-! ### The niche line (R157 to R163, R166) -/

theorem replyGone_keeps (s : State) : Keeps s (replyGone s) := by
  unfold replyGone
  split
  · exact resetAfterReply_keeps s
  · exact .of_same

theorem replySent_keeps (phase : SendPhase) (s : State) : Keeps s (replySent phase s) := by
  unfold replySent
  split
  · exact .of_same
  · exact Keeps.trans .of_same (replyGone_keeps _)
  · exact .refl s

theorem receiving_keeps (bytes : List Byte) (s : State) : Keeps s (receiving bytes s) := .of_same

theorem cancelReply_keeps (s : State) : Keeps s (cancelReply s) := by
  unfold cancelReply
  split
  · exact resetAfterReply_keeps s
  · exact (replyGone_keeps s).trans (receiving_keeps ..)

theorem replyCancelled_keeps (s : State) : Keeps s (replyCancelled s) := by
  unfold replyCancelled
  split
  · exact cancelReply_keeps s
  · exact .refl s

theorem huntCharacter_keeps (char : Byte) (s : State) : Keeps s (huntCharacter char s) := by
  unfold huntCharacter
  split
  · split
    · exact cancelReply_keeps s
    · exact receiving_keeps ..
  · exact .refl s

theorem framingError_keeps (s : State) : Keeps s (framingError s) := by
  unfold framingError
  split
  · exact .refl s
  · exact hunting_keeps s

theorem takeFrame_keeps {act : State → State} (h : ∀ s, Keeps s (act s)) (s : State) : Keeps s (takeFrame act s) := by
  unfold takeFrame
  split
  · exact .refl s
  · split
    · exact resetAfterReply_keeps s
    · exact ((replyGone_keeps s).trans (hunting_keeps _)).trans (h _)

/-- What a request does where it is addressed keeps the invariants, whatever its payload. -/
def HandlerKeeps (h : Handler) : Prop := ∀ payload s, Keeps s (h payload s).1

theorem frameArrives_keeps {onBroadcast : State → State} {h : State → State × Reply} (kind dest : Byte)
    (hb : ∀ s, Keeps s (onBroadcast s)) (hh : ∀ s, Keeps s (h s).1) (s : State) :
    Keeps s (frameArrives kind dest onBroadcast h s) := by
  refine takeFrame_keeps (fun s => ?_) s
  split
  · exact (linkAlive_keeps s).trans (hb _)
  · split
    · exact ((linkAlive_keeps s).trans (hh _)).trans .of_same
    · exact .refl s

theorem request_keeps {h : Handler} (hh : HandlerKeeps h) (kind dest : Byte) (payload : List Byte) (s : State) :
    Keeps s (request kind dest payload h s) := frameArrives_keeps kind dest .refl (hh payload) s

theorem broadcastRequest_keeps {h : Handler} (hh : HandlerKeeps h) (kind dest : Byte) (payload : List Byte) (s : State) :
    Keeps s (broadcastRequest kind dest payload h s) := by
  refine frameArrives_keeps kind dest (fun s => ?_) (hh payload) s
  split
  · exact hh payload s
  · exact .refl s

theorem HandlerKeeps.withNothing {k : State → State × Reply} (h : ∀ s, Keeps s (k s).1) :
    HandlerKeeps (withNothing k) := by
  intro payload s
  unfold Machine.withNothing
  split
  · exact h s
  · exact .refl s

theorem HandlerKeeps.withByte {k : Nat → State → State × Reply} (h : ∀ n s, Keeps s (k n s).1) :
    HandlerKeeps (withByte k) := by
  intro payload s
  unfold Machine.withByte
  split
  · exact h _ s
  · exact .refl s

theorem withUnit_keeps {α : Type} {k : α → State → State × Reply} (h : ∀ a s, Keeps s (k a s).1) (u : Option α)
    (s : State) : Keeps s (withUnit u k s).1 := by
  unfold withUnit
  split
  · exact h _ s
  · exact .refl s

theorem refuseEnum_keeps (n : Nat) : HandlerKeeps (refuseEnum n) := by
  intro payload s
  unfold refuseEnum
  split <;> exact .refl s

/-- The enumerated station written, which no fan and no request reads. -/
theorem Keeps.withStation (n : Nat) (s : State) : Keeps s (s.withCtl { s.ctl with enumStation := n }) := .withController

theorem enumStartTaken_keeps (all : Bool) (s : State) : Keeps s (enumStartTaken all s) := by
  unfold enumStartTaken
  split
  · exact .refl s
  · exact .of_same
  · split
    · exact (Keeps.withStation _ s).trans .of_same
    · exact .refl s

theorem enumStart_keeps (dest : Byte) (payload : List Byte) (s : State) : Keeps s (enumStart dest payload s) := by
  refine frameArrives_keeps _ dest (fun s => ?_) (refuseEnum_keeps 1 payload) s
  unfold enumStartBroadcast
  split
  · split
    · exact enumStartTaken_keeps ..
    · split
      · exact enumStartTaken_keeps ..
      · exact .refl s
  · exact .refl s

theorem enumProbe_keeps (dest : Byte) (payload : List Byte) (s : State) : Keeps s (enumProbe dest payload s) := by
  refine frameArrives_keeps _ dest (fun s => ?_) (refuseEnum_keeps 7 payload) s
  unfold enumProbeBroadcast
  split
  · split
    · exact .of_same
    · exact .refl s
  · exact .refl s

theorem enumAssign_keeps (dest : Byte) (payload : List Byte) (s : State) : Keeps s (enumAssign dest payload s) := by
  refine frameArrives_keeps _ dest (fun s => ?_) (refuseEnum_keeps 7 payload) s
  unfold enumAssignBroadcast
  split
  · split
    · exact (Keeps.withStation _ s).trans .of_same
    · exact .refl s
  · exact .refl s

theorem enumEnd_keeps (dest : Byte) (payload : List Byte) (s : State) : Keeps s (enumEnd dest payload s) := by
  refine frameArrives_keeps _ dest (fun s => ?_) (refuseEnum_keeps 0 payload) s
  unfold enumEndBroadcast
  split
  · exact .of_same
  · exact .refl s

/-! ### Requests that read (R21, R61, R71, R114, R129, R135, R164, R165, R171, R173) -/

theorem identifyTaken_keeps : HandlerKeeps identifyTaken := .withNothing fun s => .refl s

theorem statusTaken_keeps : HandlerKeeps statusTaken := .withNothing fun s => .refl s

theorem readChannelTaken_keeps : HandlerKeeps readChannelTaken :=
  .withByte fun _ s => withUnit_keeps (fun _ _ => .withChannel ..) _ s

theorem readFanTaken_keeps : HandlerKeeps readFanTaken := .withByte fun _ s => withUnit_keeps (fun _ s => .refl s) _ s

theorem readDoorTaken_keeps : HandlerKeeps readDoorTaken := .withByte fun _ s => withUnit_keeps (fun _ s => .refl s) _ s

theorem getScenarioTaken_keeps : HandlerKeeps getScenarioTaken := .withByte fun n s => by
  split
  · exact .refl s
  · split <;> exact .refl s

theorem ReportQueue.polled_queueOk {s : State} (h : QueueOk s) : QueueOk (s.withReports s.reports.polled) := by
  obtain ⟨hlength, _⟩ := h
  refine ⟨?_, fun hempty => ?_⟩
  · simp only [State.withReports_reports, ReportQueue.polled, List.length_tail]
    exact (Nat.sub_le ..).trans hlength
  · simp only [State.withReports_reports, ReportQueue.polled] at hempty ⊢
    have few : s.reports.records.length ≤ 1 := by
      have := congrArg List.length hempty
      simp only [List.length_tail, List.length_nil] at this
      exact Nat.sub_eq_zero_iff_le.mp this
    simp [few]

theorem pollTaken_keeps : HandlerKeeps pollTaken := .withNothing fun s => by
  split
  · exact .refl s
  · exact .withReports ReportQueue.polled_queueOk

theorem getParamTaken_keeps : HandlerKeeps getParamTaken := by
  intro payload s
  unfold getParamTaken
  split
  · split
    · exact .refl s
    · split <;> exact .refl s
  · exact .refl s

theorem setParamTaken_keeps : HandlerKeeps setParamTaken := by
  intro payload s
  unfold setParamTaken
  split
  · split
    · exact .refl s
    · split
      · next hi =>
        split
        · exact .refl s
        · next hw => exact writeParam_keeps hi hw
      · exact .refl s
  · exact .refl s

/-! ### SAVE, LOCK, RESET, SET_ACTIVE, SET_SCENARIO (R19, R63, R116, R134, R166, R175 to R177) -/

theorem saveTaken_keeps : HandlerKeeps saveTaken := .withNothing fun s => by
  split
  · exact .refl s
  · refine .withStore rfl rfl (fun _ => {}) fun k => ⟨k.working, k.stored, fun p hp => ?_⟩
    cases hp
    exact k.working

theorem lockTaken_keeps : HandlerKeeps lockTaken := .withByte fun n s => by
  split
  · exact .refl s
  · split
    · exact .refl s
    · exact .withStore rfl rfl (fun _ => {}) fun k => ⟨k.working, k.stored, k.snapshot⟩

theorem resetTaken_keeps : HandlerKeeps resetTaken := .withNothing fun s => by
  split
  · exact .refl s
  · exact .of_same

theorem switchUnit_keeps (u : UnitName) (on : Bool) (s : State) : Keeps s (switchUnit u on s) := by
  unfold switchUnit
  split
  · exact .refl s
  · exact channelOff_keeps ..
  · exact channelOn_keeps ..
  · exact .of_event (fanOff_event ..)
  · exact .of_event (fanOn_event ..)
  · exact .of_steps (doorOff_steps ..)
  · exact .of_steps (doorOn_steps ..)

theorem setActiveTaken_keeps : HandlerKeeps setActiveTaken := by
  intro payload s
  unfold setActiveTaken
  split
  · refine withUnit_keeps (fun unit s => ?_) _ s
    split
    · exact .refl s
    · split
      · exact .refl s
      · exact (withActive_keeps ..).trans (switchUnit_keeps ..)
  · exact .refl s

theorem setScenarioTaken_keeps : HandlerKeeps setScenarioTaken := by
  intro payload s
  unfold setScenarioTaken
  split
  · split
    · unfold writeScenario
      split
      · exact .refl s
      · split
        · exact .refl s
        · split
          · exact withScenario_keeps ..
          · exact .refl s
    · exact .refl s
  · exact .refl s

/-! ### Requests that drive the part (R37, R44, R59, R105, R112, R113, R131, R142 to R144, R151) -/

theorem setModeTaken_keeps : HandlerKeeps setModeTaken := .withByte fun v s => by
  split
  · exact .refl s
  · split
    · exact .refl s
    · next hm =>
      split
      · exact .refl s
      · exact changeMode_keeps _ fun e => hm (by simp [State.incident, e])

theorem fanSetTaken_keeps : HandlerKeeps fanSetTaken := by
  intro payload s
  unfold fanSetTaken
  split
  · refine withUnit_keeps (fun f s => ?_) _ s
    split
    · exact .refl s
    · dsimp only
      split
      · next hm => exact takeSetpoint_keeps _ _ hm
      · exact .refl s
  · exact .refl s

theorem fanClearTaken_keeps : HandlerKeeps fanClearTaken := .withByte fun u s => by
  refine withUnit_keeps (fun f s => ?_) _ s
  split
  · next h =>
    have event := clearLockout_event h
    exact Keeps.of_event (t := clearLockout f s) event
  · exact .refl s

theorem resumeFans_keeps (s : State) : Keeps s (resumeFans s) := by
  unfold resumeFans
  split
  · exact (heldFlags_keeps false s).trans (resumeAll_keeps ..)
  · exact .refl s

theorem resumeTaken_keeps : HandlerKeeps resumeTaken := .withNothing fun s => by
  split
  · exact .refl s
  · exact resumeFans_keeps s

theorem demandFloorTaken_keeps : HandlerKeeps demandFloorTaken := .withByte fun _ _ => Keeps.trans .of_same (recomputeDemand_keeps _)

theorem armTaken_keeps : HandlerKeeps armTaken := by
  intro payload s
  unfold armTaken
  split
  · split
    · exact .of_same
    · exact .refl s
  · exact .refl s

theorem disarmTaken_keeps : HandlerKeeps disarmTaken := .withNothing fun _ => .of_same

theorem engageTaken_keeps : HandlerKeeps engageTaken := .withByte fun tag s => by
  split
  · exact engageScenario_keeps 0 .engage 0 s
  · split
    · exact engageScenario_keeps ..
    · exact .report ..

theorem engageNowTaken_keeps : HandlerKeeps engageNowTaken := .withByte fun n s => by
  split
  · exact .refl s
  · exact engageScenario_keeps ..

theorem doorTravelTaken_keeps : HandlerKeeps doorTravelTaken := by
  intro payload s
  unfold doorTravelTaken
  split
  · refine withUnit_keeps (fun d s => ?_) _ s
    split
    · split
      · exact .refl s
      · exact .of_steps (takeTravel_steps ..)
    · exact .refl s
  · exact .refl s

theorem doorAbortTaken_keeps : HandlerKeeps doorAbortTaken := .withByte fun u s => by
  refine withUnit_keeps (fun d s => ?_) _ s
  split
  · exact .refl s
  · split
    · exact .of_steps ((clearSlot_steps d s).trans (endTravel_steps ..))
    · exact .refl s

theorem doorEscapeTaken_keeps : HandlerKeeps doorEscapeTaken := .withByte fun u s => by
  refine withUnit_keeps (fun d s => ?_) _ s
  split
  · exact .refl s
  · exact .of_steps (arrive_steps ..)

/-! ### The receiver (R157) -/

theorem takeRequest_keeps (i : Instr) (s : State) : Keeps s (takeRequest i s) := by
  cases i with
  | invalidFrame flaw => exact takeFrame_keeps .refl s
  | unknownKind dest kind payload =>
    exact request_keeps (h := fun _ => refuse .unknownKind) (fun _ s => .refl s) kind dest payload s
  | enumStart dest payload => exact enumStart_keeps ..
  | enumProbe dest payload => exact enumProbe_keeps ..
  | enumAssign dest payload => exact enumAssign_keeps ..
  | enumEnd dest payload => exact enumEnd_keeps ..
  | identify dest payload => exact request_keeps identifyTaken_keeps ..
  | status dest payload => exact request_keeps statusTaken_keeps ..
  | readChannel dest payload => exact request_keeps readChannelTaken_keeps ..
  | readFan dest payload => exact request_keeps readFanTaken_keeps ..
  | readDoor dest payload => exact request_keeps readDoorTaken_keeps ..
  | getParam dest payload => exact request_keeps getParamTaken_keeps ..
  | setParam dest payload => exact request_keeps setParamTaken_keeps ..
  | save dest payload => exact request_keeps saveTaken_keeps ..
  | lock dest payload => exact request_keeps lockTaken_keeps ..
  | setActive dest payload => exact request_keeps setActiveTaken_keeps ..
  | setScenario dest payload => exact request_keeps setScenarioTaken_keeps ..
  | getScenario dest payload => exact request_keeps getScenarioTaken_keeps ..
  | setMode dest payload => exact request_keeps setModeTaken_keeps ..
  | fanSet dest payload => exact request_keeps fanSetTaken_keeps ..
  | fanClear dest payload => exact request_keeps fanClearTaken_keeps ..
  | resume dest payload => exact request_keeps resumeTaken_keeps ..
  | demandFloor dest payload => exact request_keeps demandFloorTaken_keeps ..
  | arm dest payload => exact broadcastRequest_keeps armTaken_keeps ..
  | disarm dest payload => exact broadcastRequest_keeps disarmTaken_keeps ..
  | engage dest payload => exact broadcastRequest_keeps engageTaken_keeps ..
  | engageNow dest payload => exact request_keeps engageNowTaken_keeps ..
  | doorTravel dest payload => exact request_keeps doorTravelTaken_keeps ..
  | doorAbort dest payload => exact request_keeps doorAbortTaken_keeps ..
  | doorEscape dest payload => exact request_keeps doorEscapeTaken_keeps ..
  | poll dest payload => exact request_keeps pollTaken_keeps ..
  | reset dest payload => exact request_keeps resetTaken_keeps ..
  | _ => exact .refl s

theorem appendCharacter_keeps (bytes : List Byte) (s : State) : Keeps s (appendCharacter bytes s) := by
  unfold appendCharacter
  split
  · exact hunting_keeps s
  · split
    · split
      · exact (hunting_keeps s).trans (takeRequest_keeps ..)
      · exact hunting_keeps s
    · exact receiving_keeps ..

theorem startByte_keeps (char : Byte) (s : State) : Keeps s (startByte char s) := by
  unfold startByte
  split
  · exact .refl s
  · split
    · exact huntCharacter_keeps ..
    · exact appendCharacter_keeps ..

/-! ### Every command -/

theorem Keeps.of_next {s t u : State} (k : Keeps s u) (h : Host.Outcome.next u = (.next t : Answer)) : Keeps s t := by
  cases h
  exact k

theorem exec_keeps {i : Instr} {s t : State} (h : exec i s = .next t) : Keeps s t := by
  have request := takeRequest_keeps i s
  cases i with
  | powerOnReset straps pins => exact .of_next (powerOnReset_keeps ..) h
  | warmReset pins => exact .of_next (warmResetDue_keeps ..) h
  | sampleInstant c current => exact .of_next (sampleInstant_keeps ..) h
  | rampInstant f => exact .of_next (.of_event (rampInstant_event ..)) h
  | startLimitExpiry f => exact .of_next (.of_event (startLimitExpiry_event ..)) h
  | verifyWindowExpiry f => exact .of_next (.of_event (verifyWindowExpiry_event ..)) h
  | faultInputChange f asserted => exact .of_next (.of_event (faultInputChange_event ..)) h
  | coastConditionsMet f => exact .of_next (.of_event (coastConditionsMet_event ..)) h
  | creditRegeneration f => exact .of_next (.of_event (creditRegeneration_event ..)) h
  | acceptedEdge f high samples => exact .of_next (.of_event (acceptedEdge_event ..)) h
  | tachTimeout f => exact .of_next (.of_event (tachTimeout_event ..)) h
  | encoderEdge d edge => exact .of_next (.of_steps (encoderEdge_steps ..)) h
  | endStopChange d stop asserted => exact .of_next (.of_steps (endStopChange_steps ..)) h
  | safetyEdgeChange d asserted => exact .of_next (.of_steps (safetyEdgeChange_steps ..)) h
  | presenceChange d asserted => exact .of_next (.of_steps (presenceChange_steps ..)) h
  | escapeButtonPress d side pressed => exact .of_next (.of_steps (escapeButtonPress_steps ..)) h
  | serviceButtonPress d dir => exact .of_next (.of_steps (serviceButtonPress_steps ..)) h
  | serviceButtonRelease d dir => exact .of_next (.of_steps (serviceButtonRelease_steps ..)) h
  | settleExpiry d => exact .of_next (.of_steps (settleExpiry_steps ..)) h
  | travelTimeout d => exact .of_next (.of_steps (travelTimeout_steps ..)) h
  | holdOpenExpiry d => exact .of_next (.of_steps (holdOpenExpiry_steps ..)) h
  | reopenExpiry d => exact .of_next (.of_steps (reopenExpiry_steps ..)) h
  | reliefTimeout d => exact .of_next (.of_steps (reliefTimeout_steps ..)) h
  | blindReliefExpiry d => exact .of_next (.of_steps (blindReliefExpiry_steps ..)) h
  | startDelayExpiry f => exact .of_next (startDelayExpiry_keeps ..) h
  | linkTimeout => exact .of_next (linkTimeout_keeps s) h
  | stopAsserted => exact .of_next (stopAsserted_keeps s) h
  | stopReleased => exact .of_next (stopReleased_keeps s) h
  | escapeAsserted => exact .of_next (escapeAsserted_keeps s) h
  | escapeReleased => exact .of_next (escapeReleased_keeps s) h
  | maintAsserted => exact .of_next (maintAsserted_keeps s) h
  | maintReleased => exact .of_next (maintReleased_keeps s) h
  | rxGapTimeout => exact .of_next (hunting_keeps s) h
  | replySent phase => exact .of_next (replySent_keeps ..) h
  | replyCancelled => exact .of_next (replyCancelled_keeps s) h
  | saveComplete agrees => exact .of_next (finishWrite_keeps ..) h
  | startByte char => exact .of_next (startByte_keeps ..) h
  | framingError => exact .of_next (framingError_keeps s) h
  | _ => exact request.of_next h

/-! ### Every step -/

theorem step_keeps {s t : State} (h : step s = .next t) : Keeps s t := by
  unfold step at h
  split at h
  · cases h
    exact tick_keeps s
  · exact Keeps.trans .of_same (exec_keeps h)

theorem SettingsOk.slotted {s : State} (h : SettingsOk s) : Slotted s :=
  ⟨inRange_slotCount h.working, fun k => inRange_slotCount (h.stored k), fun p k => inRange_slotCount (h.snapshot p k)⟩

/-- Settles O56: the places of the fans and STOP are kept together, and behind every event that frees a slot or brings a request
the arbiter serves until nothing is left. -/
theorem stepsKeepTheArbiterAndStop : Obligations.StepsKeepTheArbiterAndStop :=
  ⟨fun _ _ ha hs h => inOrder_iff.mp ((step_keeps h).orders (inOrder_iff.mpr ⟨ha, hs⟩)),
    fun _ _ hp ha hs hv h => (step_keeps h).served hp.slotted (inOrder_iff.mpr ⟨ha, hs⟩) hv⟩

/-- Settles O57: every step keeps each of the three, whatever becomes of the other two. -/
theorem stepsKeepQueueCreditsAndLockouts : Obligations.StepsKeepQueueCreditsAndLockouts :=
  ⟨fun _ _ k h => (step_keeps h).queue k, fun _ _ k h => (step_keeps h).credits k, fun _ _ k h => (step_keeps h).lockouts k⟩

/-- Settles O58: a fan takes a new mode target and a changed door at once, and its reference rises toward its target only. -/
theorem stepsKeepTargetsAndCap : Obligations.StepsKeepTargetsAndCap := fun _ _ ht hc h => (step_keeps h).targets ht hc

end Sys2Proof.Machine
end

section
/-! What an event of chapters 3 to 5 leaves of the fan it reaches, as the obligations on fans state it: the fan out of the arbiter in a
state of its own with the event's first report, or on the waiting list. -/

namespace Sys2Proof.Machine

/-! ### What the arbiter leaves of every fan -/

/-- A grant, a suspension and the end of a start phase change none of these. -/
structure SameMakeup (x y : Fan) : Prop where
  latched : y.latched = x.latched := by rfl
  target : y.target = x.target := by rfl
  setpoint : y.setpoint = x.setpoint := by rfl
  modeTarget : y.modeTarget = x.modeTarget := by rfl
  tripCount : y.tripCount = x.tripCount := by rfl
  lastTrip : y.lastTrip = x.lastTrip := by rfl
  lockoutMemory : y.lockoutMemory = x.lockoutMemory := by rfl
  held : y.held = x.held := by rfl
  faultInput : y.faultInput = x.faultInput := by rfl
  tach : y.tach = x.tach := by rfl

theorem SameMakeup.trans {x y z : Fan} (a : SameMakeup x y) (b : SameMakeup y z) : SameMakeup x z where
  latched := b.latched.trans a.latched
  target := b.target.trans a.target
  setpoint := b.setpoint.trans a.setpoint
  modeTarget := b.modeTarget.trans a.modeTarget
  tripCount := b.tripCount.trans a.tripCount
  lastTrip := b.lastTrip.trans a.lastTrip
  lockoutMemory := b.lockoutMemory.trans a.lockoutMemory
  held := b.held.trans a.held
  faultInput := b.faultInput.trans a.faultInput
  tach := b.tach.trans a.tach

theorem withFan_makeup {f : Fin 4} {x : Fan} {s : State} (h : SameMakeup (s.fan f) x) (g : Fin 4) :
    SameMakeup (s.fan g) ((s.withFan f x).fan g) := by
  by_cases hg : g = f
  · subst hg
    simpa using h
  · rw [s.withFan_fan_of_ne x hg]
    exact {}

theorem leaveArbiter_makeup (f g : Fin 4) (s : State) : SameMakeup (s.fan g) ((leaveArbiter f s).fan g) :=
  withFan_makeup (s := s.withArbiter _) (x := { s.fan f with creditWait := false, suspended := false }) {} g

theorem startPhaseTest_makeup (f g : Fin 4) (s : State) : SameMakeup (s.fan g) ((startPhaseTest f s).fan g) := by
  unfold startPhaseTest
  split
  · exact (leaveArbiter_makeup f g s).trans (withFan_makeup {} g)
  · exact {}

theorem granting_makeup (f g : Fin 4) (s : State) : SameMakeup (s.fan g) ((granting f s).fan g) := by
  unfold granting
  split
  · exact withFan_makeup (s := s.withArbiter _) (x := { s.fan f with suspended := false, limitUntested := true }) {} g
  · exact withFan_makeup (s := s.withArbiter _) {} g

theorem grant_makeup (f g : Fin 4) (s : State) : SameMakeup (s.fan g) ((grant f s).fan g) := by
  obtain h | h := grant_cases f s <;> rw [h]
  · exact granting_makeup f g s
  · exact (granting_makeup f g s).trans (startPhaseTest_makeup ..)

theorem suspend_makeup (f g : Fin 4) (s : State) : SameMakeup (s.fan g) ((suspend f s).fan g) :=
  withFan_makeup (s := s.withArbiter _) (x := { s.fan f with suspended := true }) {} g

theorem serve_makeup (g : Fin 4) (s : State) : SameMakeup (s.fan g) ((serve s).fan g) := by
  refine serve_rel (fun s t => SameMakeup (s.fan g) (t.fan g)) (fun _ => {}) (fun _ _ _ => .trans) (fun s t h => ?_) s
  obtain ⟨f, _, _, rfl, _⟩ | ⟨f, k, _, _, _, rfl⟩ := serveOnce_cases h
  · exact grant_makeup f g s
  · exact (suspend_makeup k g s).trans (grant_makeup ..)

/-! ### A fan that leaves the arbiter -/

/-- Fan `f` ends the event as `x`, out of the arbiter, and the event's first report is this one. -/
structure Ends (f : Fin 4) (x : Fan) (r : ReportData) (s t : State) : Prop where
  frame : FanFrame s t
  others : OtherFans f s t
  unserved : Unserved t f
  fan : t.fan f = x
  report : FirstReport s t (fanUnit f) r

theorem FanEvent.otherFans {f : Fin 4} {s t : State} (h : FanEvent f s t) : OtherFans f s t :=
  fun g hg hu => (h.alone g hg hu).1

theorem At.otherFans {f : Fin 4} {s t : State} (h : At f s t) : OtherFans f s (serve t) :=
  fun g hg hu => ((h.leavesAlone hg).trans (serve_leavesAlone g t) hu).1

theorem firstReport_serve {s u : State} {n : Nat} {r : ReportData} (h : u.reports = s.reports.arrive n r) :
    FirstReport s (serve u) n r := by
  unfold FirstReport
  rw [← h]
  exact (serve_frame u).queued

/-- A fan that the arbiter knows nothing of stays as it is while the arbiter serves. -/
theorem serve_fan_of_unserved {s : State} {f : Fin 4} (h : Unserved s f) : (serve s).fan f = s.fan f :=
  (serve_leavesAlone f s h).1

theorem serve_unserved {s : State} {f : Fin 4} (h : Unserved s f) : Unserved (serve s) f := (serve_leavesAlone f s h).2

/-- The cause that the report of a fan's event carries: the trip's where it ends in one (R60). -/
def reportCause (x : Fan) (c : FanCause) : FanCause := if x.state = .tripped then tripReportCause x.lastTrip else c

theorem reportFanChange_reports {b : FanState} {f : Fin 4} {c : FanCause} {s : State} (h : (s.fan f).state ≠ b) :
    (reportFanChange b f c s).reports = s.reports.arrive (fanUnit f) (.fanState (s.fan f).state (reportCause (s.fan f) c)) := by
  unfold reportFanChange reportCause
  split
  · next hb => exact absurd hb h
  · split <;> rfl

theorem reportFanChange_unserved {b : FanState} {f : Fin 4} {c : FanCause} {s : State} (h : Unserved s f) :
    Unserved (reportFanChange b f c s) f := h.of_arbiter (reportFanChange_arbiter ..)

/-- A change at the fan that takes it out of the arbiter, reported. -/
theorem ends_of_at {f : Fin 4} {s u : State} {b : FanState} {c : FanCause} (h : At f s u) (hu : Unserved u f)
    (hq : u.reports = s.reports) (hb : (u.fan f).state ≠ b) : Ends f (u.fan f)
      (.fanState (u.fan f).state (reportCause (u.fan f) c)) s (serve (reportFanChange b f c u)) where
  frame := (h.trans (reportFanChange_at ..)).frame.trans (serve_frame _)
  others := (h.trans (reportFanChange_at ..)).otherFans
  unserved := serve_unserved (reportFanChange_unserved hu)
  fan := by rw [serve_fan_of_unserved (reportFanChange_unserved hu), reportFanChange_fan]
  report := firstReport_serve (by rw [reportFanChange_reports hb, hq])

theorem leaveAndWrite_fan (f : Fin 4) (x : Fan) (s : State) : ((leaveArbiter f s).withFan f x).fan f = x :=
  State.withFan_fan_self ..

theorem trip_fan (f : Fin 4) (c : TripCause) (s : State) : (trip f c s).fan f = (s.fan f).afterTrip c := by
  unfold trip
  dsimp only
  rw [leaveAndWrite_fan, leaveArbiter_fan]
  rfl

theorem trip_unserved (f : Fin 4) (c : TripCause) (s : State) : Unserved (trip f c s) f :=
  (leaveArbiter_unserved f s).of_arbiter rfl

/-- A trip and its report (R57, R60). -/
theorem trip_ends {f : Fin 4} {b : FanState} {c : TripCause} {d : FanCause} {s : State} (hb : b ≠ .tripped) :
    Ends f ((s.fan f).afterTrip c) (.fanState .tripped (tripReportCause c)) s (serve (reportFanChange b f d (trip f c s))) := by
  have ends := ends_of_at (b := b) (c := d) (trip_at f c s) (trip_unserved f c s) rfl (by rw [trip_fan]; exact hb.symm)
  rw [trip_fan] at ends
  exact ends

theorem enterCoasting_fan {f : Fin 4} {s : State} (h : drives (s.fan f).state = true) :
    (enterCoasting f s).fan f = (s.fan f).afterCut := by
  unfold enterCoasting
  dsimp only
  rw [leaveAndWrite_fan, leaveArbiter_fan]
  simp [Fan.outputsOff, Fan.afterCut, h]

/-- An output switched off in COASTING, and its report (R53, R56, R60). -/
theorem enterCoasting_ends {f : Fin 4} {b : FanState} {c : FanCause} {s : State} (h : drives (s.fan f).state = true)
    (hb : b ≠ .coasting) :
    Ends f (s.fan f).afterCut (.fanState .coasting c) s (serve (reportFanChange b f c (enterCoasting f s))) := by
  have ends := ends_of_at (b := b) (c := c) (enterCoasting_at f s) ((leaveArbiter_unserved f s).of_arbiter rfl) rfl
    (by rw [enterCoasting_fan h]; exact hb.symm)
  rw [enterCoasting_fan h] at ends
  exact ends

theorem enterRunning_fan (f : Fin 4) (noted : Bool) (s : State) :
    (enterRunning f noted s).fan f = { (s.fan f).afterStart with stallNoted := noted } := by
  unfold enterRunning
  dsimp only
  rw [leaveAndWrite_fan, leaveArbiter_fan]
  rfl

theorem reportedRunning_unserved (f : Fin 4) (noted : Bool) (c : FanCause) (s : State) :
    Unserved (reportFan f c (enterRunning f noted s)) f := (leaveArbiter_unserved f s).of_arbiter rfl

/-- RUNNING entered from STARTING, and its report (R73, R74). -/
theorem enterRunning_ends {f : Fin 4} {noted : Bool} {c : FanCause} {s : State} :
    Ends f { (s.fan f).afterStart with stallNoted := noted } (.fanState .running c) s
      (serve (reportFan f c (enterRunning f noted s))) where
  frame := ((enterRunning_at f noted s).trans (reportFan_at ..)).frame.trans (serve_frame _)
  others := ((enterRunning_at f noted s).trans (reportFan_at ..)).otherFans
  unserved := serve_unserved (reportedRunning_unserved f noted c s)
  fan := by rw [serve_fan_of_unserved (reportedRunning_unserved f noted c s), reportFan_fan, enterRunning_fan]
  report := firstReport_serve (by
    show (enterRunning f noted s).reports.arrive _ (.fanState ((enterRunning f noted s).fan f).state c) = _
    rw [enterRunning_fan]
    rfl)

/-! ### A fan that joins the waiting list (R48, R80, R81, R88) -/

/-- Fan `f` waits with `n` credits, on no other list. -/
structure Waits (f : Fin 4) (n : Nat) (v : State) : Prop where
  state : (v.fan f).state = .awaitGrant
  waiting : v.arbiter.waiting[f]'f.isLt = true
  credits : (v.fan f).credits = n
  suspended : f ∉ v.arbiter.suspended
  holders : f ∉ v.arbiter.holders

/-- Fan `f` has taken its grant from `n` credits, and nothing can preempt it. -/
structure Granted (f : Fin 4) (n : Nat) (v : State) : Prop where
  state : (v.fan f).state = .starting
  holder : f ∈ v.arbiter.holders
  timer : (v.fan f).startTimer = some 0
  credits : (v.fan f).credits = n - 1
  notListed : listed v f = false
  notUrgent : urgentRequest v = none

theorem grant_granted {f : Fin 4} {n : Nat} {v : State} (h : Waits f n v) (hu : ∀ g, urgentRequest v = some g → g = f) :
    Granted f n (grant f v) := by
  have first : grant f v = firstGrant f v := by simp [grant, h.suspended]
  have notListed : listed (grant f v) f = false := Bool.eq_false_iff.mpr fun k => (grant_listed k).2 rfl
  have notUrgent := grant_notUrgent hu
  have fan : (firstGrant f v).fan f = { (v.fan f).drawCredit (v.fanCfg f) with
      state := .starting, reference := 0, startTimer := some 0, limitUntested := false, offTime := 0, standstill := 0 } := by
    simp [firstGrant]
  rw [first] at notListed notUrgent ⊢
  exact ⟨by rw [fan], by simp [firstGrant, Arbiter.granted], by rw [fan],
    by rw [fan]; simp [Fan.drawCredit, h.credits], notListed, notUrgent⟩

theorem Waits.of_grant {f g : Fin 4} {n : Nat} {v : State} (h : Waits f n v) (hg : f ≠ g) : Waits f n (grant g v) := by
  have hn : (g : Nat) ≠ f := fun e => hg (Fin.ext e.symm)
  have at_g := grant_at g v
  have fan : (grant g v).fan f = v.fan f := (at_g.fans f hg).trans (granting_fan_of_ne v hg)
  refine ⟨by rw [fan]; exact h.state, ?_, by rw [fan]; exact h.credits, ?_, ?_⟩
  · rw [at_g.waiting f hg, granting_arbiter]
    have := h.waiting
    simp only [Fin.getElem_fin] at this
    simp [Arbiter.granted, hn, this]
  · rw [at_g.suspended f hg, granting_arbiter]
    simp [Arbiter.granted, h.suspended]
  · rw [at_g.holders f hg, granting_arbiter]
    simp [Arbiter.granted, h.holders, hg]

theorem Waits.of_suspend {f g : Fin 4} {n : Nat} {v : State} (h : Waits f n v) (hg : f ≠ g) : Waits f n (suspend g v) := by
  have fan : (suspend g v).fan f = v.fan f := suspend_fan_of_ne v hg
  refine ⟨by rw [fan]; exact h.state, h.waiting, by rw [fan]; exact h.credits, ?_, ?_⟩
  · simp [suspend, h.suspended, hg]
  · simp [suspend, h.holders]

theorem Granted.of_grant {f g : Fin 4} {n : Nat} {v : State} (h : Granted f n v) (hg : f ≠ g) : Granted f n (grant g v) := by
  have at_g := grant_at g v
  have fan : (grant g v).fan f = v.fan f := (at_g.fans f hg).trans (granting_fan_of_ne v hg)
  refine ⟨by rw [fan]; exact h.state, ?_, by rw [fan]; exact h.timer, by rw [fan]; exact h.credits, ?_, ?_⟩
  · rw [at_g.holders f hg, granting_arbiter]
    simp [Arbiter.granted, h.holder]
  · exact Bool.eq_false_iff.mpr fun k => absurd (grant_listed k).1 (by simp [h.notListed])
  · exact grant_notUrgent fun k hk => by simp [h.notUrgent] at hk

theorem Granted.serveOnce {f : Fin 4} {n : Nat} {v w : State} (h : Granted f n v) (k : Machine.serveOnce v = some w) :
    Granted f n w := by
  obtain ⟨g, hg, _, rfl, _⟩ | ⟨g, _, hu, _⟩ := serveOnce_cases k
  · exact h.of_grant fun e => by simp [← e, h.notListed] at hg
  · simp [h.notUrgent] at hu

/-- One choice of the arbiter leaves a waiting fan waiting, or grants it. -/
theorem Waits.serveOnce {f : Fin 4} {n : Nat} {v w : State} (h : Waits f n v) (k : Machine.serveOnce v = some w) :
    Waits f n w ∨ Granted f n w := by
  obtain ⟨g, _, _, rfl, hu⟩ | ⟨g, e, hu, he, _, rfl⟩ := serveOnce_cases k
  · by_cases hg : f = g
    · subst hg
      exact .inr (grant_granted h hu)
    · exact .inl (h.of_grant hg)
  · have suspended := h.of_suspend (g := e) fun k => h.holders (k ▸ List.mem_of_getLast? he)
    by_cases hg : f = g
    · subst hg
      refine .inr (grant_granted suspended fun k hk => ?_)
      exact Option.some_inj.mp ((urgentRequest_eq_some.mp hk).2.1.symm.trans (urgentRequest_eq_some.mp hu).2.1)
    · exact .inl (suspended.of_grant hg)

theorem serveFor_inv {P : State → Prop} (once : ∀ v w, P v → serveOnce v = some w → P w) (n : Nat) {s : State} (h : P s) :
    P (serveFor n s) := by
  induction n generalizing s with
  | zero => exact h
  | succ n ih =>
    unfold serveFor
    split
    · next t k => exact ih (once s t h k)
    · exact h

/-- Where nobody else asks, a free slot goes to the one fan that waits. -/
theorem serveOnce_of_only {f : Fin 4} {u : State} (hf : u.arbiter.waiting[f]'f.isLt = true)
    (ho : ∀ g, g ≠ f → u.arbiter.waiting[g]'g.isLt = false) (hs : u.arbiter.suspended = []) (hfree : slotFree u = true) :
    serveOnce u = some (grant f u) := by
  have only {g : Fin 4} (k : listed u g = true) : g = f := by
    by_contra hg
    obtain k | k := listed_iff.mp k
    · exact absurd (ho g hg) (by rw [k]; nofun)
    · simp [hs] at k
  unfold serveOnce
  split
  · next g hg =>
    rw [if_pos hfree, only (urgentRequest_eq_some.mp hg).2.2]
  · next hn =>
    have : nextRequest u = some f := by
      cases hq : nextRequest u with
      | none => exact absurd ((nextRequest_eq_none hq).1 f) (by rw [hf]; nofun)
      | some g => rw [only (nextRequest_listed hq)]
    rw [if_pos hfree, this]
    rfl

/-- A fan put on the waiting list, and the arbiter serving. -/
theorem joinsWaiting {f : Fin 4} {n : Nat} {s u : State} (hl : Unserved s f)
    (hu : u.arbiter = { s.arbiter with waiting := s.arbiter.waiting.set f true f.isLt }) (hc : u.ctl = s.ctl)
    (hst : (u.fan f).state = .awaitGrant) (hn : (u.fan f).credits = n) : JoinsWaiting f n s (serve u) := by
  have waits : Waits f n u := ⟨hst, by simp [hu], hn, by rw [hu]; exact hl.2.2, by rw [hu]; exact hl.1⟩
  have served : Waits f n (serve u) ∨ Granted f n (serve u) :=
    serveFor_inv (P := fun v => Waits f n v ∨ Granted f n v)
      (fun v w h k => h.elim (fun h => h.serveOnce k) fun h => .inr (h.serveOnce k)) 8 (.inl waits)
  refine ⟨served.imp (fun h => ⟨h.state, h.waiting, h.credits⟩) fun h => ⟨h.state, h.holder, h.timer, h.credits⟩,
    fun hno hfree => ?_, fun hurgent hfull => ?_⟩
  · have once : serveOnce u = some (grant f u) := serveOnce_of_only waits.waiting
      (fun g hg => by
        have hne : (f : Nat) ≠ g := fun e => hg (Fin.ext e.symm)
        have := hno.1 g
        simp only [Fin.getElem_fin] at this
        simp [hu, hne, this])
      (by rw [hu]; exact hno.2) (by simpa [slotFree, hu, hc] using hfree)
    have granted : Granted f n (grant f u) := grant_granted waits fun g hg => by
      by_contra hne
      obtain ⟨_, _, hlist⟩ := urgentRequest_eq_some.mp hg
      have hne' : (f : Nat) ≠ g := fun e => hne (Fin.ext e.symm)
      have := hno.1 g
      simp only [Fin.getElem_fin] at this
      simp [listed_iff, hu, hne', this, hno.2] at hlist
    have : serve u = serveFor 7 (grant f u) := by simp [serve, serveFor, once]
    rw [this]
    exact (serveFor_inv (fun v w h k => h.serveOnce k) 7 granted).state
  · have none_urgent : urgentRequest u = none := urgentRequest_eq_none.mpr fun k => by simp [hu, hurgent] at k
    have full : slotFree u = false := by simpa [slotFree, hu, hc] using hfull
    have : serve u = u := by simp [serve, serveFor, serveOnce, none_urgent, full]
    rw [this]
    exact hst

end Sys2Proof.Machine
end

section
/-! The ramp, the start limit, the verify window and the FAULT input (R42, R52, R53, R57, R72 to R77). -/

namespace Sys2Proof.Machine

/-- The ending of an event that begins with a change at the fan itself, before any report. -/
theorem Ends.after {f : Fin 4} {x : Fan} {r : ReportData} {s u t : State} (h : At f s u) (hq : u.reports = s.reports)
    (k : Ends f x r u t) : Ends f x r s t where
  frame := h.frame.trans k.frame
  others g hg hu :=
    have ⟨same, free⟩ := h.leavesAlone hg hu
    (k.others g hg free).trans same
  unserved := k.unserved
  fan := k.fan
  report := by
    have := k.report
    unfold FirstReport at this ⊢
    rwa [hq] at this

/-! ### The fan's speed (R52, R72, R73) -/

theorem atSpeed_iff {s : State} {f : Fin 4} : (!hasTach s f || upToSpeed s f) = true ↔ AtSpeed (s.fanCfg f) (s.fan f) := by
  rw [Bool.or_eq_true]
  exact or_congr (by simp [hasTach]) decide_eq_true_iff

theorem startPhaseOver_iff {s : State} {f : Fin 4} : startPhaseOver s f = true ↔ (s.fan f).state = .starting ∧
    f ∈ s.arbiter.holders ∧ (s.fan f).reference = (s.fan f).target.speed * 10 ∧ AtSpeed (s.fanCfg f) (s.fan f) := by
  unfold startPhaseOver
  simp only [Bool.and_eq_true, atSpeed_iff]
  simp [and_assoc]

theorem verifyStep_atSpeed {s : State} {f : Fin 4} (h : AtSpeed (s.fanCfg f) (s.fan f)) : verifyStep s f = some 0 :=
  if_pos (atSpeed_iff.mpr h)

theorem verifyStep_slow {s : State} {f : Fin 4} (h : ¬ AtSpeed (s.fanCfg f) (s.fan f)) : verifyStep s f =
    (s.fan f).verifyTimer.map fun t => if (s.fanCfg f).verifyWindow * 1000 ≤ t then t else t + 100 :=
  if_neg fun k => h (atSpeed_iff.mp k)

/-- One step of the reference toward `aim` (R52). -/
def Fan.stepped (cfg : FanSettings) (aim : Nat) (x : Fan) : Fan := { x with reference := rampStep cfg x.reference aim }

theorem stepReference_eq (f : Fin 4) (aim : Nat) (s : State) :
    stepReference f aim s = s.withFan f ((s.fan f).stepped (s.fanCfg f) aim) := rfl

theorem rampInstant_running {f : Fin 4} {s : State} (h : (s.fan f).state = .running) :
    let y := (s.fan f).stepped (s.fanCfg f) ((s.fan f).target.speed * 10)
    rampInstant f s = s.withFan f { y with verifyTimer := verifyStep (s.withFan f y) f } := by
  simp [rampInstant, h, stepReference_eq]

theorem rampInstant_starting {f : Fin 4} {s : State} (h : (s.fan f).state = .starting) (hf : f ∈ s.arbiter.holders) :
    rampInstant f s = rampStarting f s := by
  simp [rampInstant, h, hf]

/-- The start phase goes on: the reference one step further, and the start-phase timer (R52, R73). -/
theorem rampStarting_goesOn {f : Fin 4} {s : State}
    (h : startPhaseOver (stepReference f ((s.fan f).target.speed * 10) s) f = false) :
    rampStarting f s = s.withFan f { (s.fan f).stepped (s.fanCfg f) ((s.fan f).target.speed * 10) with
      startTimer := (s.fan f).startTimer.map (· + 100), limitUntested := false } := by
  unfold rampStarting
  simp only [h, Bool.false_eq_true, if_false]
  simp [advanceStartTimer, stepReference_eq, Fan.stepped]

theorem rampInstant_stopping {f : Fin 4} {s : State} (h : (s.fan f).state = .stopping) : rampInstant f s =
    if rampStep (s.fanCfg f) (s.fan f).reference 0 = 0 then
      serve (reportFanChange .stopping f .target (enterCoasting f (stepReference f 0 s)))
    else stepReference f 0 s := by
  simp [rampInstant, h, stepReference_eq, Fan.stepped]

/-- Settles O12: the branches of the ramp instant, with the comparison of R72 read off the stepped reference. -/
theorem rampInstantMovesTheReference : Obligations.RampInstantMovesTheReference := by
  intro s f
  dsimp only
  refine ⟨fun h fast => congrArg Host.Outcome.next ?_, fun h slow => congrArg Host.Outcome.next ?_,
    fun h hf goes => congrArg Host.Outcome.next ?_, fun h hf => congrArg Host.Outcome.next ?_,
    fun h moving => congrArg Host.Outcome.next ((rampInstant_stopping h).trans (if_neg moving)), fun h => congrArg Host.Outcome.next ?_⟩
  · refine (rampInstant_running h).trans ?_
    rw [verifyStep_atSpeed (by rw [State.withFan_fan_self]; exact fast)]
    rfl
  · refine (rampInstant_running h).trans ?_
    rw [verifyStep_slow (by rw [State.withFan_fan_self]; exact slow), State.withFan_fan_self]
    rfl
  · refine (rampInstant_starting h hf).trans ((rampStarting_goesOn (Bool.eq_false_iff.mpr fun ended => goes ?_)).trans rfl)
    · obtain ⟨_, _, arrived, fast⟩ := startPhaseOver_iff.mp ended
      simp only [stepReference_eq, State.withFan_fan_self, State.withFan_fanCfg] at arrived fast
      exact ⟨arrived, fast⟩
  · show rampInstant f s = s
    simp [rampInstant, h, hf]
  · show rampInstant f s = s
    unfold rampInstant
    split <;> simp_all [drives]

/-! ### The end of a phase (R53, R73, R74) -/

theorem stepReference_at {f : Fin 4} {s : State} {aim : Nat} (h : aim ≤ (s.fan f).target.speed * 10) :
    At f s (stepReference f aim s) :=
  .withFan { reference := (rampStep_le ..).imp_right (Nat.le_trans · h) }

theorem advanceStartTimer_at (f : Fin 4) (s : State) : At f s (advanceStartTimer f s) := .withFan {}

theorem rampStep_arrives {cfg : FanSettings} {r aim : Nat} (up : r < aim → aim ≤ r + cfg.rampUp)
    (down : aim < r → r - cfg.rampDown ≤ aim) : rampStep cfg r aim = aim := by
  unfold rampStep
  split
  · next low => exact Nat.min_eq_right (up low)
  · next low =>
    split
    · next high => exact Nat.max_eq_right (down high)
    · next high => exact Nat.le_antisymm (Nat.not_lt.mp high) (Nat.not_lt.mp low)

/-- The start phase of a fan under a grant ends at its test (R73). -/
theorem testStartPhase_ends {f : Fin 4} {s : State} (h : startPhaseOver s f = true) :
    Ends f (s.fan f).afterStart (.fanState .running .startDone) s (serve (startPhaseTest f s)) := by
  unfold startPhaseTest
  rw [if_pos h]
  exact enterRunning_ends

/-- The start limit reached: a trip outside INCIDENT, RUNNING in INCIDENT (R74). -/
theorem startLimitExpires_ends (f : Fin 4) (s : State) :
    (s.modes.mode ≠ .incident →
      Ends f ((s.fan f).afterTrip .startTimeout) (.fanState .tripped .startTimeout) s (startLimitExpires f s)) ∧
    (s.modes.mode = .incident →
      Ends f { (s.fan f).afterStart with stallNoted := true } (.fanState .running .stallIgnored) s (startLimitExpires f s)) := by
  unfold startLimitExpires
  refine ⟨fun h => ?_, fun h => ?_⟩
  · rw [if_neg (by simpa [State.incident] using h)]
    exact trip_ends nofun
  · rw [if_pos (by simpa [State.incident] using h)]
    exact enterRunning_ends

theorem startLimitReached_iff {s : State} {f : Fin 4} : startLimitReached s f = true ↔ (s.fan f).state = .starting ∧
    f ∈ s.arbiter.holders ∧ (s.fan f).limitUntested = false ∧
      ∃ t, (s.fan f).startTimer = some t ∧ (s.fanCfg f).startLimit * 1000 ≤ t := by
  unfold startLimitReached
  simp [and_assoc, Option.any_eq_true]

/-- The two outcomes of a ramp instant that completes a start phase: the start-phase test's, or the start limit's where the timer
reaches it there (R74; log entry 6). -/
theorem rampStarting_over {f : Fin 4} {s : State}
    (ended : startPhaseOver (stepReference f ((s.fan f).target.speed * 10) s) f = true) :
    let y := (s.fan f).stepped (s.fanCfg f) ((s.fan f).target.speed * 10)
    Ends f y.afterStart (.fanState .running .startDone) s (rampStarting f s) ∨
    ((s.fan f).startTimer.any (fun t => (s.fanCfg f).startLimit * 1000 ≤ t + 100) = true ∧
      ∃ x r, Ends f x r s (rampStarting f s) ∧
        (x.state = .running ∨ (x.state = .tripped ∧ s.modes.mode ≠ .incident))) := by
  have stepped := stepReference_at (f := f) (s := s) (Nat.le_refl ((s.fan f).target.speed * 10))
  have phase {u : State} (hu : At f (stepReference f ((s.fan f).target.speed * 10) s) u)
      (hq : u.reports = s.reports) (hx : u.fan f = (stepReference f ((s.fan f).target.speed * 10) s).fan f)
      (ho : startPhaseOver u f = true) :
      Ends f ((s.fan f).stepped (s.fanCfg f) ((s.fan f).target.speed * 10)).afterStart (.fanState .running .startDone) s
        (serve (startPhaseTest f u)) := by
    have := testStartPhase_ends ho
    rw [hx, stepReference_eq, State.withFan_fan_self] at this
    exact this.after (stepped.trans hu) hq
  unfold rampStarting
  simp only [ended, if_true]
  split
  · next limit =>
    refine .inr ⟨?_, ?_⟩
    · obtain ⟨_, _, _, t, ht, hl⟩ := startLimitReached_iff.mp limit
      simp only [advanceStartTimer, stepReference_eq, State.withFan_fan_self, State.withFan_fanCfg, Fan.stepped,
        Option.map_eq_some_iff] at ht hl
      obtain ⟨τ, hτ, rfl⟩ := ht
      simp [hτ, hl]
    · split
      · exact ⟨_, _, phase (.nextChoice ..) rfl rfl (by simpa [startPhaseOver_iff] using ended), .inl rfl⟩
      · have moved := (stepped.trans (advanceStartTimer_at ..)).trans (.nextChoice ..)
        obtain ⟨trips, runs⟩ := startLimitExpires_ends f
          (advanceStartTimer f (stepReference f ((s.fan f).target.speed * 10) s)).nextChoice
        by_cases hm : s.modes.mode = .incident
        · exact ⟨_, _, (runs hm).after moved rfl, .inl rfl⟩
        · exact ⟨_, _, (trips hm).after moved rfl, .inr ⟨rfl, hm⟩⟩
  · exact .inl (phase (.refl ..) rfl rfl ended)

/-- Settles O13: both endings are changes at the fan that take it out of the arbiter. -/
theorem rampInstantEndsAPhase : Obligations.RampInstantEndsAPhase := by
  refine ⟨fun s f => ?_, fun s f => ?_⟩
  · dsimp only
    intro h hf up down fast
    have arrives := rampStep_arrives up down
    have ended : startPhaseOver (stepReference f ((s.fan f).target.speed * 10) s) f = true := by
      rw [startPhaseOver_iff]
      simp only [stepReference_eq, State.withFan_fan_self, State.withFan_fanCfg, State.withFan_arbiter, Fan.stepped, arrives,
        true_and]
      exact ⟨h, hf, fast⟩
    refine ⟨rampStarting f s, congrArg Host.Outcome.next (rampInstant_starting h hf), ?_⟩
    obtain ends | ⟨limit, x, r, ends, hx⟩ := rampStarting_over ended
    · refine ⟨ends.frame, ends.others, ends.unserved, fun _ => ⟨?_, ends.report⟩, fun _ => .inl (by rw [ends.fan]; rfl)⟩
      rw [ends.fan, Fan.stepped, arrives]
      rfl
    · exact ⟨ends.frame, ends.others, ends.unserved, fun k => absurd (k.symm.trans limit) nofun, fun _ => by rwa [ends.fan]⟩
  · dsimp only
    intro h hr
    have arrives : rampStep (s.fanCfg f) (s.fan f).reference 0 = 0 := rampStep_arrives nofun fun _ => by omega
    have ends : Ends f (s.fan f).afterCut (.fanState .coasting .target) s (rampInstant f s) := by
      rw [rampInstant_stopping h, if_pos arrives]
      have cut := enterCoasting_ends (f := f) (b := .stopping) (c := .target) (s := stepReference f 0 s)
        (by simp [stepReference_eq, Fan.stepped, h, drives]) nofun
      rw [stepReference_eq, State.withFan_fan_self] at cut
      exact cut.after (stepReference_at (Nat.zero_le _)) rfl
    exact ⟨_, rfl, ends.frame, ends.others, ends.unserved, ends.fan, ends.report⟩

/-! ### Supervision (R74, R76, R77) -/

/-- Settles O14. -/
theorem startLimitTripsOrRuns : Obligations.StartLimitTripsOrRuns := by
  intro s f
  dsimp only
  refine ⟨fun h => ?_, fun h => ?_⟩
  · exact congrArg Host.Outcome.next (if_neg fun k => h (startLimitReached_iff.mp k))
  · obtain ⟨trips, runs⟩ := startLimitExpires_ends f s
    refine ⟨startLimitExpires f s, congrArg Host.Outcome.next (if_pos (startLimitReached_iff.mpr h)), ?_⟩
    by_cases hm : s.modes.mode = .incident
    · obtain ⟨frame, others, unserved, fan, report⟩ := runs hm
      exact ⟨frame, others, unserved, fun k => absurd hm k, fun _ => ⟨fan, report⟩⟩
    · obtain ⟨frame, others, unserved, fan, report⟩ := trips hm
      exact ⟨frame, others, unserved, fun _ => ⟨fan, report⟩, fun k => absurd k hm⟩

theorem verifyWindowReached_iff {s : State} {f : Fin 4} : verifyWindowReached s f = true ↔ (s.fan f).state = .running ∧
    (s.fanCfg f).pulsesPerRev ≠ 0 ∧ ∃ t, (s.fan f).verifyTimer = some t ∧ (s.fanCfg f).verifyWindow * 1000 ≤ t := by
  unfold verifyWindowReached
  simp [and_assoc, Option.any_eq_true, hasTach]

/-- Settles O15. -/
theorem verifyWindowTripsOrReports : Obligations.VerifyWindowTripsOrReports := by
  intro s f
  dsimp only
  have exec_eq : exec (.verifyWindowExpiry f) s = .next (verifyWindowExpiry f s) := rfl
  rw [exec_eq]
  unfold verifyWindowExpiry
  refine ⟨fun h => ?_, fun h hm => ?_, fun h hm hn => ?_, fun h hm hn => ?_⟩
  · rw [if_neg fun k => h (verifyWindowReached_iff.mp k)]
  all_goals rw [if_pos (verifyWindowReached_iff.mpr h)]
  · rw [if_neg (by simpa [State.incident] using hm)]
    obtain ⟨frame, others, unserved, fan, report⟩ :=
      trip_ends (f := f) (b := .running) (c := .stall) (d := .stall) (s := s) nofun
    exact ⟨_, rfl, frame, others, unserved, fan, report⟩
  · rw [if_pos (by simpa [State.incident] using hm), if_pos hn]
  · rw [if_pos (by simpa [State.incident] using hm), if_neg (by simp [hn])]
    have reported : reportFan f .stallIgnored s = report (fanUnit f) (.fanState .running .stallIgnored) s := by
      rw [reportFan, h.1]
    rw [reported]
    rfl

/-! ### The FAULT input (R42, R57) -/

theorem coastMet_iff {cfg : FanSettings} {x : Fan} : coastMet cfg x = true ↔ CoastOver cfg x := by
  simp [coastMet, CoastOver]

theorem tripsOnFault_iff {st : FanState} :
    tripsOnFault st = true ↔ st = .starting ∨ st = .running ∨ st = .stopping ∨ st = .awaitGrant := by
  cases st <;> simp [tripsOnFault]

/-- Settles O16. -/
theorem faultInputTrips : Obligations.FaultInputTrips := by
  intro s f
  dsimp only
  refine ⟨fun h => ?_, fun h => congrArg Host.Outcome.next ?_, fun h => congrArg Host.Outcome.next ?_⟩
  · have ends : Ends f { (s.fan f).afterTrip .driveFault with faultInput := true } (.fanState .tripped .driveFault) s
        (faultInputChange f true s) := by
      unfold faultInputChange
      simp only [if_true, if_pos (tripsOnFault_iff.mpr h)]
      have trips := trip_ends (f := f) (b := (s.fan f).state) (c := .driveFault) (d := .driveFault)
        (s := s.withFan f { s.fan f with faultInput := true }) (by obtain h | h | h | h := h <;> rw [h] <;> nofun)
      rw [State.withFan_fan_self] at trips
      exact trips.after (.withFan {}) rfl
    exact ⟨_, rfl, ends.frame, ends.others, ends.unserved, ends.fan, ends.report⟩
  · show faultInputChange f true s = _
    have stays : tripsOnFault (s.fan f).state = false := Bool.eq_false_iff.mpr fun k => h (tripsOnFault_iff.mp k)
    simp [faultInputChange, stays]
  · show faultInputChange f false s = _
    unfold faultInputChange
    simp only [Bool.false_eq_true, if_false]
    split
    · next ht =>
      have unmet : ¬ CoastOver (s.fanCfg f) (s.fan f) := h.resolve_left fun k => k ht
      unfold coastTest
      exact if_neg fun k => unmet (by simpa [CoastOver] using coastMet_iff.mp k)
    · rfl

end Sys2Proof.Machine
end

section
/-! A target applied to a fan in OFF (R48, R54, R58, R59, R80), and the ends of COASTING and TRIPPED. -/

namespace Sys2Proof.Machine

/-! ### A target applied in OFF -/

/-- The fan has a target that runs it, and starts are permitted (R48, R148, R150). -/
def Wishes (s : State) (x : Fan) : Prop := x.target.speed ≠ 0 ∧ s.stop.asserted = false ∧ x.held = false

/-- A fan may join the waiting list: it holds a credit, or the mode is INCIDENT (R80, R88). -/
def MayJoin (s : State) (x : Fan) : Prop := s.modes.mode = .incident ∨ x.credits ≠ 0

theorem mayJoin_iff {s : State} {x : Fan} : (s.incident || x.credits != 0) = true ↔ MayJoin s x := by
  simp [State.incident, MayJoin]

/-- The fan at its entry to AWAIT_GRANT (R48). -/
def Fan.asking (x : Fan) : Fan := { x with state := .awaitGrant, latched := x.target.dir }

theorem reapply_noWish {f : Fin 4} {s : State} (h : ¬ Wishes s (s.fan f)) : reapply f s = s :=
  if_neg fun ⟨_, speed, permitted⟩ => h ⟨speed, startsPermitted_iff.mp permitted⟩

theorem reapply_wish {f : Fin 4} {s : State} (hs : (s.fan f).state = .off) (h : Wishes s (s.fan f)) : reapply f s = enterAwait f s :=
  if_pos ⟨hs, h.1, startsPermitted_iff.mpr h.2⟩

theorem enterAwait_trips {f : Fin 4} {s : State} (h : (s.fan f).faultInput = true) :
    enterAwait f s = trip f .driveFault (s.withFan f (s.fan f).asking) := by
  simp [enterAwait, h, Fan.asking]

theorem enterAwait_joins {f : Fin 4} {s : State} (h : (s.fan f).faultInput = false) (hj : MayJoin s (s.fan f)) : enterAwait f s =
    (s.withFan f (s.fan f).asking).withArbiter { s.arbiter with waiting := s.arbiter.waiting.set f true f.isLt } := by
  have joins : (s.incident || (s.fan f).credits != 0) = true := mayJoin_iff.mpr hj
  exact (if_neg (by simp [h])).trans (if_pos joins)

theorem enterAwait_creditless {f : Fin 4} {s : State} (h : (s.fan f).faultInput = false) (hj : ¬ MayJoin s (s.fan f)) :
    enterAwait f s = s.withFan f { (s.fan f).asking with creditWait := true } := by
  have waits : ¬ (s.incident || (s.fan f).credits != 0) = true := fun k => hj (mayJoin_iff.mp k)
  refine (if_neg (by simp [h])).trans ((if_neg waits).trans ?_)
  rw [State.withFan_fan_self, State.withFan_withFan]
  rfl

/-- The target of fan `f`, in OFF as `x` and on no list, applied in an event that found the fan in state `b`: `s` stands before the
event and `t` behind it. -/
structure Applied (f : Fin 4) (b : FanState) (c : FanCause) (x : Fan) (s t : State) : Prop where
  frame : FanFrame s t
  others : OtherFans f s t
  target : (t.fan f).target = x.target
  reference : (t.fan f).reference ≤ x.reference
  rests : ¬ Wishes s x → t.fan f = x ∧ (b ≠ .off → FirstReport s t (fanUnit f) (.fanState .off c))
  trips : Wishes s x → x.faultInput = true → t.fan f = x.asking.afterTrip .driveFault ∧
    (b ≠ .tripped → FirstReport s t (fanUnit f) (.fanState .tripped .driveFault))
  asks : Wishes s x → x.faultInput = false → SameMakeup x.asking (t.fan f) ∧
    (b ≠ .awaitGrant → FirstReport s t (fanUnit f) (.fanState .awaitGrant c))
  creditless : Wishes s x → x.faultInput = false → ¬ MayJoin s x →
    (t.fan f).state = .awaitGrant ∧ (t.fan f).creditWait = true
  joins : Wishes s x → x.faultInput = false → MayJoin s x → JoinsWaiting f x.credits s t

theorem Applied.of_withFan {f : Fin 4} {b : FanState} {c : FanCause} {x y : Fan} {s t : State}
    (h : Applied f b c x (s.withFan f y) t) : Applied f b c x s t where
  frame := (FanFrame.withFan f y s).trans h.frame
  others g hg hu := (h.others g hg (hu.of_arbiter rfl)).trans (s.withFan_fan_of_ne y hg)
  target := h.target
  reference := h.reference
  rests := h.rests
  trips := h.trips
  asks := h.asks
  creditless := h.creditless
  joins hw hi hj :=
    have joined := h.joins hw hi hj
    ⟨joined.either, joined.granted, joined.waits⟩

theorem asking_makeup {f : Fin 4} {b : FanState} {c : FanCause} {s u : State} (hu : SameMakeup (s.fan f).asking (u.fan f)) :
    SameMakeup (s.fan f).asking ((serve (reportFanChange b f c u)).fan f) := by
  have := serve_makeup f (reportFanChange b f c u)
  rw [reportFanChange_fan] at this
  exact hu.trans this

theorem firstReport_change {f : Fin 4} {b : FanState} {c : FanCause} {s u : State} (hb : (u.fan f).state ≠ b)
    (hq : u.reports = s.reports) : FirstReport s (serve (reportFanChange b f c u)) (fanUnit f)
      (.fanState (u.fan f).state (reportCause (u.fan f) c)) :=
  firstReport_serve (by rw [reportFanChange_reports hb, hq])

theorem reapply_applied {f : Fin 4} {b : FanState} {c : FanCause} {s : State} (hs : (s.fan f).state = .off)
    (hf : Unserved s f) : Applied f b c (s.fan f) s (serve (reportFanChange b f c (reapply f s))) where
  frame := ((reapply_at f s).trans (reportFanChange_at ..)).frame.trans (serve_frame _)
  others := ((reapply_at f s).trans (reportFanChange_at ..)).otherFans
  target := by
    rw [(serve_makeup f _).target, reportFanChange_fan]
    exact (reapply_at f s).mild.target
  reference := by
    have served := serve_noRise f (reportFanChange b f c (reapply f s))
    have applied : ((reapply f s).fan f).reference ≤ (s.fan f).reference := by
      by_cases h : Wishes s (s.fan f)
      · rw [reapply_wish hs h]
        by_cases hi : (s.fan f).faultInput = true
        · rw [enterAwait_trips hi, trip_fan]
          exact Nat.zero_le _
        · by_cases hj : MayJoin s (s.fan f)
          · rw [enterAwait_joins (by simpa using hi) hj]
            simp [Fan.asking]
          · rw [enterAwait_creditless (by simpa using hi) hj]
            simp [Fan.asking]
      · rw [reapply_noWish h]
    unfold NoRise at served
    rw [reportFanChange_fan] at served
    exact served.trans applied
  rests h := by
    rw [reapply_noWish h]
    refine ⟨?_, fun hb => ?_⟩
    · rw [serve_fan_of_unserved (reportFanChange_unserved hf), reportFanChange_fan]
    · have := firstReport_change (f := f) (b := b) (c := c) (s := s) (by rw [hs]; exact hb.symm) rfl
      simpa [reportCause, hs] using this
  trips h hi := by
    rw [reapply_wish hs h, enterAwait_trips hi]
    have unserved := trip_unserved f .driveFault (s.withFan f (s.fan f).asking)
    have fan : (trip f .driveFault (s.withFan f (s.fan f).asking)).fan f = (s.fan f).asking.afterTrip .driveFault := by
      rw [trip_fan, State.withFan_fan_self]
    refine ⟨?_, fun hb => ?_⟩
    · rw [serve_fan_of_unserved (reportFanChange_unserved unserved), reportFanChange_fan, fan]
    · have := firstReport_change (f := f) (b := b) (c := c) (s := s) (u := trip f .driveFault (s.withFan f (s.fan f).asking))
        (by rw [fan]; exact hb.symm) rfl
      rw [fan] at this
      exact this
  asks h hi := by
    rw [reapply_wish hs h]
    have entered : SameMakeup (s.fan f).asking ((enterAwait f s).fan f) ∧ ((enterAwait f s).fan f).state = .awaitGrant ∧
        (enterAwait f s).reports = s.reports := by
      by_cases hj : MayJoin s (s.fan f)
      · rw [enterAwait_joins hi hj]
        refine ⟨?_, by simp [Fan.asking], rfl⟩
        rw [State.withArbiter_fan, State.withFan_fan_self]
        exact {}
      · rw [enterAwait_creditless hi hj, State.withFan_fan_self]
        exact ⟨{}, rfl, rfl⟩
    obtain ⟨makeup, state, reports⟩ := entered
    refine ⟨asking_makeup makeup, fun hb => ?_⟩
    have := firstReport_change (f := f) (b := b) (c := c) (s := s) (u := enterAwait f s) (by rw [state]; exact hb.symm) reports
    simpa [reportCause, state] using this
  creditless h hi hj := by
    rw [reapply_wish hs h, enterAwait_creditless hi hj]
    have unserved : Unserved (s.withFan f { (s.fan f).asking with creditWait := true }) f := hf.of_arbiter rfl
    rw [serve_fan_of_unserved (reportFanChange_unserved unserved), reportFanChange_fan, State.withFan_fan_self]
    exact ⟨rfl, rfl⟩
  joins h hi hj := by
    rw [reapply_wish hs h, enterAwait_joins hi hj]
    have frame := reportFanChange_frame b f c
      ((s.withFan f (s.fan f).asking).withArbiter { s.arbiter with waiting := s.arbiter.waiting.set f true f.isLt })
    refine joinsWaiting hf (reportFanChange_arbiter ..) frame.ctl ?_ ?_
    all_goals
      rw [reportFanChange_fan, State.withArbiter_fan, State.withFan_fan_self]
      rfl

/-- OFF entered, and the target applied, in an event that found the fan in state `b`, on no list. -/
theorem enterOff_applied {f : Fin 4} {b : FanState} {c : FanCause} {s : State} (hf : Unserved s f) :
    Applied f b c ((s.fan f).outputsOff .off) s (serve (reportFanChange b f c (enterOff f s))) := by
  have := reapply_applied (b := b) (c := c) (s := s.withFan f ((s.fan f).outputsOff .off)) (f := f)
    (by simp [Fan.outputsOff]) (hf.of_arbiter rfl)
  rw [State.withFan_fan_self] at this
  exact this.of_withFan

/-- The fan waits or has started, in its target's direction. -/
theorem Applied.asked {f : Fin 4} {b : FanState} {c : FanCause} {x : Fan} {s t : State} (h : Applied f b c x s t)
    (hw : Wishes s x) (hi : x.faultInput = false) :
    ((t.fan f).state = .awaitGrant ∨ (t.fan f).state = .starting) ∧ (t.fan f).latched = x.target.dir := by
  refine ⟨?_, (h.asks hw hi).1.latched⟩
  by_cases hj : MayJoin s x
  · exact (h.joins hw hi hj).either.imp And.left And.left
  · exact .inl (h.creditless hw hi hj).1

theorem Applied.tripCount {f : Fin 4} {b : FanState} {c : FanCause} {x : Fan} {s t : State} (h : Applied f b c x s t)
    (hi : x.faultInput = false) : (t.fan f).tripCount = x.tripCount := by
  by_cases hw : Wishes s x
  · exact (h.asks hw hi).1.tripCount
  · rw [(h.rests hw).1]

/-! ### The ends of COASTING and TRIPPED (R54, R58) -/

/-- The wait brings the dwell to its end, and with it the standstill or the coast limit (R54). -/
theorem coastWait_covers (cfg : FanSettings) (x : Fan) :
    cfg.minDwell * 1000 ≤ x.offTime + coastWait cfg x ∧
      ((cfg.pulsesPerRev ≠ 0 ∧ 5000 ≤ x.standstill) ∨
        (cfg.pulsesPerRev ≠ 0 ∧ x.tach.rpm = 0 ∧ 5000 ≤ x.standstill + coastWait cfg x) ∨
        cfg.coastLimit * 1000 ≤ x.offTime + coastWait cfg x) := by
  have dwell : cfg.minDwell * 1000 - x.offTime ≤ coastWait cfg x := Nat.le_max_left ..
  refine ⟨Nat.sub_le_iff_le_add'.mp dwell, ?_⟩
  by_cases stands : cfg.pulsesPerRev ≠ 0 ∧ 5000 ≤ x.standstill
  · exact .inl stands
  · have rest : (if cfg.pulsesPerRev ≠ 0 ∧ x.tach.rpm = 0 then min (cfg.coastLimit * 1000 - x.offTime) (5000 - x.standstill)
        else cfg.coastLimit * 1000 - x.offTime) ≤ coastWait cfg x := by
      simp only [coastWait, if_neg stands]
      exact Nat.le_max_right ..
    by_cases slow : cfg.pulsesPerRev ≠ 0 ∧ x.tach.rpm = 0
    · rw [if_pos slow] at rest
      by_cases still : 5000 - x.standstill ≤ coastWait cfg x
      · exact .inr (.inl ⟨slow.1, slow.2, Nat.sub_le_iff_le_add'.mp still⟩)
      · exact .inr (.inr (Nat.sub_le_iff_le_add'.mp ((min_le_iff.mp rest).resolve_right still)))
    · rw [if_neg slow] at rest
      exact .inr (.inr (Nat.sub_le_iff_le_add'.mp rest))

/-- The times that `COAST_CONDITIONS_MET` lets pass meet the coast conditions (R54; log entry 2). -/
theorem coastWait_met {cfg : FanSettings} (x : Fan) (h : cfg.inRange = true) :
    CoastOver cfg (x.passTime (coastWait cfg x)) := by
  simp only [FanSettings.inRange, within, Bool.and_eq_true, decide_eq_true_eq] at h
  obtain ⟨⟨⟨⟨⟨⟨⟨⟨⟨⟨⟨⟨⟨⟨⟨_, dwell⟩, limit⟩, _⟩, _⟩, _⟩, _⟩, _⟩, _⟩, _⟩, _⟩, _⟩, _⟩, _⟩, _⟩, _⟩ := h
  have dwellEnds : cfg.minDwell * 1000 ≤ 600 * 1000 := Nat.mul_le_mul_right _ (dwell.2.trans (by decide))
  have limitEnds : cfg.coastLimit * 1000 ≤ 600 * 1000 := Nat.mul_le_mul_right _ limit.2
  have waited := coastWait_covers cfg x
  generalize coastWait cfg x = w at waited ⊢
  have off : (x.passTime w).offTime = min 600000 (x.offTime + w) := rfl
  unfold CoastOver
  rw [off]
  obtain ⟨dwelt, stands | ⟨tach, slow, rests⟩ | rests⟩ := waited
  · refine ⟨le_min dwellEnds dwelt, .inl ⟨stands.1, ?_⟩⟩
    unfold Fan.passTime
    dsimp only
    split
    · exact le_min (Nat.le_refl _) (stands.2.trans (Nat.le_add_right ..))
    · exact stands.2
  · refine ⟨le_min dwellEnds dwelt, .inl ⟨tach, ?_⟩⟩
    unfold Fan.passTime
    dsimp only
    rw [if_pos slow]
    exact le_min (Nat.le_refl _) rests
  · exact ⟨le_min dwellEnds dwelt, .inr (le_min limitEnds rests)⟩

theorem coastConditionsMet_eq {f : Fin 4} {s : State} (h : (s.fan f).state = .coasting ∨ (s.fan f).state = .tripped) :
    coastConditionsMet f s = coastTest f (s.withFan f ((s.fan f).passTime (coastWait (s.fanCfg f) (s.fan f)))) := by
  obtain h | h := h <;> simp [coastConditionsMet, h]

theorem coastTest_coasting {f : Fin 4} {s : State} (hm : CoastOver (s.fanCfg f) (s.fan f)) (h : (s.fan f).state = .coasting) :
    coastTest f s = leaveCoasting f s := by
  simp [coastTest, coastMet_iff.mpr hm, h]

theorem coastTest_tripped {f : Fin 4} {s : State} (hm : CoastOver (s.fanCfg f) (s.fan f)) (h : (s.fan f).state = .tripped)
    (hi : (s.fan f).faultInput = false) : coastTest f s = leaveTripped f s := by
  simp [coastTest, coastMet_iff.mpr hm, h, hi]

/-- Settles O17: the times that pass meet the conditions, and the target is applied in OFF. -/
theorem coastingEndsInTheTarget : Obligations.CoastingEndsInTheTarget := by
  intro s f
  dsimp only
  refine ⟨fun hc ht => congrArg Host.Outcome.next ?_, fun h hr hu => ?_⟩
  · unfold coastConditionsMet
    split <;> simp_all
  · have ended : Applied f .coasting .target (((s.fan f).passTime (coastWait (s.fanCfg f) (s.fan f))).outputsOff .off) s
        (coastConditionsMet f s) := by
      rw [coastConditionsMet_eq (.inl h), coastTest_coasting (by simpa using coastWait_met _ hr) (by simpa [Fan.passTime] using h)]
      have := enterOff_applied (f := f) (b := .coasting) (c := .target)
        (s := s.withFan f ((s.fan f).passTime (coastWait (s.fanCfg f) (s.fan f)))) (hu.of_arbiter rfl)
      rw [State.withFan_fan_self] at this
      exact this.of_withFan
    refine ⟨_, rfl, ended.frame, ended.others, ended.target, Nat.le_zero.mp ended.reference, fun hw => ?_, fun hw hi => ?_,
      fun hw hi => ?_, ended.creditless, ended.joins⟩
    · obtain ⟨fan, report⟩ := ended.rests hw
      exact ⟨by rw [fan]; rfl, by rw [fan]; rfl, report nofun⟩
    · obtain ⟨fan, report⟩ := ended.trips hw hi
      exact ⟨by rw [fan]; rfl, by rw [fan]; rfl, report nofun⟩
    · obtain ⟨makeup, report⟩ := ended.asks hw hi
      exact ⟨makeup.latched, report nofun⟩

/-- The end of TRIPPED below the trip limit or in INCIDENT (R58). -/
theorem leaveTripped_applied {f : Fin 4} {s : State} (hf : Unserved s f)
    (h : (s.fan f).tripCount < (s.fanCfg f).tripLimit ∨ s.modes.mode = .incident) :
    Applied f .tripped .target ((s.fan f).outputsOff .off) s (leaveTripped f s) := by
  unfold leaveTripped
  rw [if_pos (by simpa [State.incident] using h)]
  exact enterOff_applied hf

/-- The end of TRIPPED at the trip limit outside INCIDENT (R58). -/
theorem leaveTripped_locks {f : Fin 4} {s : State}
    (h : ¬ ((s.fan f).tripCount < (s.fanCfg f).tripLimit ∨ s.modes.mode = .incident)) : leaveTripped f s =
      reportFan f .lockout (s.withFan f { s.fan f with state := .lockedOut, lockoutMemory := true }) :=
  if_neg (by simpa [State.incident] using h)

/-- Both ways out of TRIPPED leave it from a state that differs in the fan's times and its FAULT input alone. -/
theorem leavesTripped_eq {s : State} {f : Fin 4} {c : Instr} (h : (s.fan f).state = .tripped)
    (hr : (s.fanCfg f).inRange = true)
    (hc : (c = .coastConditionsMet f ∧ (s.fan f).faultInput = false) ∨
      (c = .faultInputChange f false ∧ CoastOver (s.fanCfg f) (s.fan f))) :
    ∃ off rest, exec c s =
      .next (leaveTripped f (s.withFan f { s.fan f with offTime := off, standstill := rest, faultInput := false })) := by
  obtain ⟨rfl, hi⟩ | ⟨rfl, hm⟩ := hc
  · refine ⟨((s.fan f).passTime (coastWait (s.fanCfg f) (s.fan f))).offTime,
      ((s.fan f).passTime (coastWait (s.fanCfg f) (s.fan f))).standstill, congrArg Host.Outcome.next ?_⟩
    rw [coastConditionsMet_eq (.inr h), coastTest_tripped (by simpa using coastWait_met _ hr)
      (by simpa [Fan.passTime] using h) (by simpa [Fan.passTime] using hi)]
    simp [Fan.passTime, hi]
  · refine ⟨(s.fan f).offTime, (s.fan f).standstill, congrArg Host.Outcome.next ?_⟩
    show faultInputChange f false s = _
    simp only [faultInputChange, h, Bool.false_eq_true, if_false, if_true]
    exact coastTest_tripped (by simpa [CoastOver] using hm) (by simp) (by simp)

/-- Settles O18. -/
theorem trippedEndsInOffOrLockedOut : Obligations.TrippedEndsInOffOrLockedOut := by
  refine ⟨fun s f => ?_, fun s f c => ?_⟩
  · dsimp only
    intro h hi
    refine ⟨coastWait (s.fanCfg f) (s.fan f), congrArg Host.Outcome.next ?_⟩
    rw [coastConditionsMet_eq (.inr h)]
    unfold coastTest
    split
    · simp [Fan.passTime, h, hi]
    · rfl
  · dsimp only
    intro h hr hu hc
    obtain ⟨off, rest, ends⟩ := leavesTripped_eq h hr hc
    rw [ends]
    by_cases again : (s.fan f).tripCount < (s.fanCfg f).tripLimit ∨ s.modes.mode = .incident
    · have applied := leaveTripped_applied
        (s := s.withFan f { s.fan f with offTime := off, standstill := rest, faultInput := false }) (hu.of_arbiter rfl)
        (by simpa using again)
      rw [State.withFan_fan_self] at applied
      have applied := applied.of_withFan
      refine ⟨_, rfl, applied.frame, applied.others, applied.tripCount rfl, fun _ hw => ?_, fun _ hw => ?_,
        fun _ hw => applied.joins hw rfl,
        fun _ hw hm hn => applied.creditless hw rfl fun k => ?_, fun k => absurd again k⟩
      · obtain ⟨fan, report⟩ := applied.rests hw
        exact ⟨by rw [fan]; rfl, report nofun⟩
      · obtain ⟨state, latched⟩ := applied.asked hw rfl
        exact ⟨state, latched, (applied.asks hw rfl).2 nofun⟩
      · exact k.elim hm (absurd hn)
    · rw [leaveTripped_locks (by simpa using again), State.withFan_fan_self, State.withFan_withFan]
      refine ⟨_, rfl, (FanFrame.withFan ..).trans (reportFan_frame ..), fun g hg _ => s.withFan_fan_of_ne _ hg, ?_,
        fun k => absurd k again, fun k => absurd k again, fun k => absurd k again, fun k => absurd k again, fun _ => ?_⟩
      · simp
      · simp [reportFan, report]

end Sys2Proof.Machine
end

section
/-! A changed target by the state of the fan (R47 to R51, R53, R55, R56, R73), and the end of a start delay (R137). -/

namespace Sys2Proof.Machine

theorem Ends.of_withFan {f : Fin 4} {x y : Fan} {r : ReportData} {s t : State} (h : Ends f x r (s.withFan f y) t) :
    Ends f x r s t where
  frame := (FanFrame.withFan f y s).trans h.frame
  others g hg hu := (h.others g hg (hu.of_arbiter rfl)).trans (s.withFan_fan_of_ne y hg)
  unserved := h.unserved
  fan := h.fan
  report := h.report

theorem startPhaseTest_of_ne {f : Fin 4} {s : State} (h : (s.fan f).state ≠ .starting) : startPhaseTest f s = s :=
  if_neg fun k => h (startPhaseOver_iff.mp k).1

/-- A target change that leaves the fan outside STARTING. -/
theorem targetChange_eq {f : Fin 4} {t : Target} {s : State} (h : ((takeTarget f t s).fan f).state ≠ .starting) :
    targetChange f t s = serve (reportFanChange (s.fan f).state f .target (takeTarget f t s)) := by
  unfold targetChange
  rw [startPhaseTest_of_ne (by rwa [reportFanChange_fan])]

/-- A target change that takes the fan out of the arbiter, into another state. -/
theorem targetChange_ends {f : Fin 4} {t : Target} {s : State} {y : Fan} (hu : Unserved (takeTarget f t s) f)
    (hy : (takeTarget f t s).fan f = y) (hq : (takeTarget f t s).reports = s.reports) (hb : y.state ≠ (s.fan f).state)
    (hs : y.state ≠ .starting) (ht : y.state ≠ .tripped) : Ends f y (.fanState y.state .target) s (targetChange f t s) := by
  subst hy
  rw [targetChange_eq hs]
  have ends := ends_of_at (c := .target) (takeTarget_at f t s) hu (s := withTarget f t s) hq hb
  rw [reportCause, if_neg ht] at ends
  exact ends.of_withFan

/-- A target change that does nothing but hold the new target, to a fan outside STARTING that the arbiter knows nothing of. -/
theorem targetChange_held {f : Fin 4} {t : Target} {s : State} (hu : Unserved s f)
    (ht : takeTarget f t s = withTarget f t s) (hs : (s.fan f).state ≠ .starting) :
    (targetChange f t s).fan f = { s.fan f with target := t } := by
  have same : reportFanChange (s.fan f).state f .target (withTarget f t s) = withTarget f t s := if_pos (by simp)
  have free : Unserved (withTarget f t s) f := hu.of_arbiter rfl
  rw [targetChange_eq (by simpa [ht] using hs), ht, same, serve_fan_of_unserved free, withTarget_fan]

/-! ### STARTING and RUNNING (R49 to R51, R56) -/

/-- The target stops the fan or reverses it. -/
def Turns (x : Fan) (t : Target) : Prop := t.speed = 0 ∨ t.dir ≠ x.latched

theorem takeTarget_stops {f : Fin 4} {t : Target} {s : State} (h : (s.fan f).state = .running ∨ (s.fan f).state = .starting)
    (ht : Turns (s.fan f) t) (hm : s.modes.mode ≠ .incident) : takeTarget f t s = enterStopping f (withTarget f t s) := by
  unfold takeTarget
  by_cases hz : t.speed = 0
  · obtain h | h := h <;> simp [h, hz, withTarget]
  · have hd : t.dir ≠ (s.fan f).latched := ht.resolve_left hz
    obtain h | h := h <;> simp [h, hz, hd, hm, withTarget, State.incident]

theorem takeTarget_reverses {f : Fin 4} {t : Target} {s : State} (h : (s.fan f).state = .running ∨ (s.fan f).state = .starting)
    (hz : t.speed ≠ 0) (hd : t.dir ≠ (s.fan f).latched) (hm : s.modes.mode = .incident) :
    takeTarget f t s = enterCoasting f (withTarget f t s) := by
  unfold takeTarget
  obtain h | h := h <;> simp [h, hz, hd, hm, withTarget, State.incident]

theorem takeTarget_goesOn {f : Fin 4} {t : Target} {s : State} (h : (s.fan f).state = .running ∨ (s.fan f).state = .starting)
    (ht : ¬ Turns (s.fan f) t) : takeTarget f t s = withTarget f t s := by
  obtain ⟨hz, hd⟩ := not_or.mp ht
  unfold takeTarget
  obtain h | h := h <;> simp [h, hz, not_not.mp hd, withTarget]

theorem enterStopping_fan (f : Fin 4) (s : State) : (enterStopping f s).fan f =
    if (s.fan f).reference = 0 then { s.fan f with creditWait := false, suspended := false }.outputsOff .coasting
    else { s.fan f with
      state := .stopping, startTimer := none, verifyTimer := none, creditWait := false, suspended := false } := by
  unfold enterStopping
  dsimp only
  rw [leaveArbiter_fan]
  split <;> exact leaveAndWrite_fan ..

theorem enterStopping_unserved (f : Fin 4) (s : State) : Unserved (enterStopping f s) f := by
  unfold enterStopping
  dsimp only
  split <;> exact (leaveArbiter_unserved f s).of_arbiter rfl

theorem enterStopping_reports (f : Fin 4) (s : State) : (enterStopping f s).reports = s.reports := by
  unfold enterStopping
  dsimp only
  split <;> rfl

theorem running_or_starting_drives {st : FanState} (h : st = .running ∨ st = .starting) : drives st = true := by
  obtain rfl | rfl := h <;> rfl

/-- A stop with the output on (R50, R51, R53). -/
theorem targetChange_stops {f : Fin 4} {t : Target} {s : State} (h : (s.fan f).state = .running ∨ (s.fan f).state = .starting)
    (ht : Turns (s.fan f) t) (hm : s.modes.mode ≠ .incident) (hr : (s.fan f).reference ≠ 0) :
    Ends f { s.fan f with
      target := t, state := .stopping, startTimer := none, verifyTimer := none, creditWait := false, suspended := false }
      (.fanState .stopping .target) s (targetChange f t s) := by
  have take := takeTarget_stops h ht hm
  refine targetChange_ends (y := { s.fan f with
      target := t, state := .stopping, startTimer := none, verifyTimer := none, creditWait := false, suspended := false })
    (by rw [take]; exact enterStopping_unserved ..) ?_ (by rw [take]; exact enterStopping_reports ..)
    (by obtain h | h := h <;> simp [h]) nofun nofun
  rw [take, enterStopping_fan, withTarget_fan, if_neg hr]

/-- A stop from a reference of 0 (R50, R53). -/
theorem targetChange_stopsAtZero {f : Fin 4} {t : Target} {s : State}
    (h : (s.fan f).state = .running ∨ (s.fan f).state = .starting) (ht : Turns (s.fan f) t) (hm : s.modes.mode ≠ .incident)
    (hr : (s.fan f).reference = 0) :
    Ends f { s.fan f with target := t }.afterCut (.fanState .coasting .target) s (targetChange f t s) := by
  have take := takeTarget_stops h ht hm
  refine targetChange_ends (y := { s.fan f with target := t }.afterCut) (by rw [take]; exact enterStopping_unserved ..) ?_
    (by rw [take]; exact enterStopping_reports ..) (by obtain h | h := h <;> simp [h, Fan.afterCut])
    (by simp [Fan.afterCut]) (by simp [Fan.afterCut])
  rw [take, enterStopping_fan, withTarget_fan, if_pos hr]
  simp [Fan.outputsOff, Fan.afterCut, running_or_starting_drives h]

/-- A reversal in INCIDENT cuts the output (R56). -/
theorem targetChange_cuts {f : Fin 4} {t : Target} {s : State} (h : (s.fan f).state = .running ∨ (s.fan f).state = .starting)
    (hz : t.speed ≠ 0) (hd : t.dir ≠ (s.fan f).latched) (hm : s.modes.mode = .incident) :
    Ends f { s.fan f with target := t }.afterCut (.fanState .coasting .target) s (targetChange f t s) := by
  have take := takeTarget_reverses h hz hd hm
  refine targetChange_ends (y := { s.fan f with target := t }.afterCut)
    (by rw [take]; exact (leaveArbiter_unserved ..).of_arbiter rfl) ?_ (by rw [take]; rfl)
    (by obtain h | h := h <;> simp [h, Fan.afterCut])
    (by simp [Fan.afterCut]) (by simp [Fan.afterCut])
  rw [take, enterCoasting_fan (by simpa using running_or_starting_drives h), withTarget_fan]

/-! ### A new mode target of a fan whose target is its mode target -/

theorem setModeTarget_eq {f : Fin 4} {m : Target} {s : State} (h : s.ctl.pressFan ≠ some f) :
    setModeTarget f m s = if m = (s.fan f).target then s.withFan f { s.fan f with modeTarget := m }
      else targetChange f m (s.withFan f { s.fan f with modeTarget := m }) := by
  unfold setModeTarget recompose
  rw [composedTarget_of_ne (by simpa using h), State.withFan_fan_self]

theorem setModeTarget_others (f : Fin 4) (m : Target) (s : State) : OtherFans f s (setModeTarget f m s) := fun g hg hu => by
  have wished : (wishing f m s).fan g = s.fan g := by rw [wishing_eq, State.withFan_fan_of_ne _ _ hg]
  have free : Unserved (wishing f m s) g := hu.of_arbiter (by rw [wishing_eq]; rfl)
  exact ((setModeTarget_event f m s).otherFans g hg free).trans wished

/-! ### The end of a start delay (R137) -/

theorem incidentTarget_expired {s : State} {f : Fin 4} {e : FanEntry} (he : engagedEntry s f = some e)
    (hd : s.modes.delays[f]'f.isLt = .expired) : incidentTarget s f = { dir := e.dir, speed := e.speed } := by
  unfold incidentTarget
  rw [he, hd]

/-- The start delay of fan `f` has expired, nothing done about it yet. -/
def delayEnded (f : Fin 4) (s : State) : State := s.withModes { s.modes with delays := s.modes.delays.set f .expired f.isLt }

theorem startDelayExpiry_running {f : Fin 4} {s : State} {ms : Nat} {r : ScenarioRecord} {e : FanEntry}
    (hd : s.modes.delays[f]'f.isLt = .running ms) (hr : s.modes.record = some r) (he : r.fans.find? (fun e => e.fan == f) = some e) :
    startDelayExpiry f s = setModeTarget f { dir := e.dir, speed := e.speed }
      (delayEnded f s) := by
  have entry : engagedEntry (delayEnded f s) f = some e := by
    simp [delayEnded, engagedEntry, hr, ScenarioRecord.fanEntry, he]
  have expired : (delayEnded f s).modes.delays[f]'f.isLt = .expired := by simp [delayEnded]
  have ends : startDelayExpiry f s = refreshIncident f (delayEnded f s) := by
    unfold startDelayExpiry
    rw [hd]
    rfl
  rw [ends, refreshIncident, incidentTarget_expired entry expired]

/-- Settles O20: the expiry is a new mode target, and the reversal of a driving fan one of its target changes. -/
theorem startDelayBringsTheEntry : Obligations.StartDelayBringsTheEntry := by
  intro s f
  dsimp only
  refine ⟨fun h => congrArg Host.Outcome.next ?_, fun ms r e hd hr he => ?_⟩
  · unfold startDelayExpiry
    split
    · next ms hd => exact absurd hd (h ms)
    · rfl
  · have refreshed := setModeTarget_refreshed f { dir := e.dir, speed := e.speed }
      (delayEnded f s)
    refine ⟨_, congrArg Host.Outcome.next (startDelayExpiry_running hd hr he), refreshed.frame,
      fun g hg hu => setModeTarget_others _ _ _ g hg (hu.of_arbiter rfl), refreshed.modeTarget, refreshed.composed,
      fun hm hp hst hz hdir ht => ?_⟩
    have chosen := (setModeTarget_eq (f := f) (m := { dir := e.dir, speed := e.speed }) (s := delayEnded f s) hp).trans
      (if_neg ht.symm)
    obtain ⟨_, _, _, fan, report⟩ := targetChange_cuts (f := f) (t := { dir := e.dir, speed := e.speed })
      (s := (delayEnded f s).withFan f { s.fan f with modeTarget := { dir := e.dir, speed := e.speed } })
      (by simpa using hst) hz (by simpa using hdir) hm
    rw [State.withFan_fan_self] at fan
    rw [chosen]
    exact ⟨fan, report⟩

end Sys2Proof.Machine
end

section
/-! The requests to a fan, FAN_SET and FAN_CLEAR (R44, R47 to R51, R53, R55, R59). -/

namespace Sys2Proof.Machine

/-! ### A request to a quiet controller (R158) -/

/-- An addressed request answered as its handler says. -/
theorem request_answered {kind dest : Byte} {payload data : List Byte} {h : Handler} {code : ResultCode} {s t : State}
    (hr : Ready s dest) (ht : h payload (dispatching s) = (t, { code := code, data := data })) :
    request kind dest payload h s = answered kind dest code data t := by
  rw [request_of_ready hr, answerRequest, ht]
  rfl

/-! ### A fan that asks for a grant and has not moved yet -/

/-- The fan asks for a grant, or has taken it and stands at the reference 0 of its start. -/
def Pending (x : Fan) : Prop :=
  x.target.speed ≠ 0 ∧ (x.state = .awaitGrant ∨ (x.state = .starting ∧ x.reference = 0))

/-- No start phase ends at the reference 0 of a running target (R73). -/
theorem Pending.phaseGoesOn {f : Fin 4} {s : State} (h : Pending (s.fan f)) : startPhaseTest f s = s := by
  refine if_neg fun k => ?_
  obtain ⟨hs, _, arrived, _⟩ := startPhaseOver_iff.mp k
  obtain ⟨speed, await | ⟨_, zero⟩⟩ := h
  · exact absurd (await.symm.trans hs) nofun
  · omega

theorem Pending.granting {f : Fin 4} {s : State} (h : Pending (s.fan f)) : Pending ((granting f s).fan f) := by
  unfold Machine.granting
  split
  · simp only [regranted, reportFan_fan, State.withFan_fan_self]
    exact h
  · simp only [firstGrant, reportFan_fan, State.withFan_fan_self]
    exact ⟨h.1, .inr ⟨rfl, rfl⟩⟩

theorem Pending.grant {f g : Fin 4} {s : State} (h : Pending (s.fan g)) : Pending ((grant f s).fan g) := by
  by_cases hg : g = f
  · subst hg
    have given := h.granting
    obtain same | same := grant_cases g s <;> rw [same]
    · exact given
    · rwa [given.phaseGoesOn]
  · rwa [(grant_at f s).fans g hg, granting_fan_of_ne s hg]

theorem Pending.suspend {f g : Fin 4} {s : State} (h : Pending (s.fan g)) : Pending ((suspend f s).fan g) := by
  by_cases hg : g = f
  · subst hg
    simp only [Machine.suspend, reportFan_fan, State.withFan_fan_self]
    exact h
  · rwa [suspend_fan_of_ne s hg]

theorem Pending.serve {g : Fin 4} {s : State} (h : Pending (s.fan g)) : Pending ((serve s).fan g) := by
  refine serve_rel (fun s t => Pending (s.fan g) → Pending (t.fan g)) (fun _ => id) (fun _ _ _ a b => b ∘ a)
    (fun s t once k => ?_) s h
  obtain ⟨f, _, _, rfl, _⟩ | ⟨f, e, _, _, _, rfl⟩ := serveOnce_cases once
  · exact k.grant
  · exact k.suspend.grant

/-! ### A changed target in the other states (R47 to R49, R51, R55, R73) -/

theorem goesOn_starting {f : Fin 4} {t : Target} {s : State} (h : (s.fan f).state = .starting) (ht : ¬ Turns (s.fan f) t) :
    targetChange f t s = serve (startPhaseTest f (withTarget f t s)) := by
  have same : reportFanChange (s.fan f).state f .target (withTarget f t s) = withTarget f t s := if_pos (by simp)
  rw [targetChange, takeTarget_goesOn (.inr h) ht, same]

/-- A starting fan already at its new target ends its start phase there (R73). -/
theorem targetChange_arrives {f : Fin 4} {t : Target} {s : State} (h : (s.fan f).state = .starting) (ht : ¬ Turns (s.fan f) t)
    (hf : f ∈ s.arbiter.holders) (hr : (s.fan f).reference = t.speed * 10) (fast : AtSpeed (s.fanCfg f) (s.fan f)) :
    Ends f { s.fan f with target := t }.afterStart (.fanState .running .startDone) s (targetChange f t s) := by
  have ended : startPhaseOver (withTarget f t s) f = true := startPhaseOver_iff.mpr (by
    rw [withTarget_fan]
    exact ⟨h, hf, hr, fast⟩)
  have ends := testStartPhase_ends ended
  rw [withTarget_fan] at ends
  rw [goesOn_starting h ht]
  exact ends.of_withFan

theorem targetChange_startsOn {f : Fin 4} {t : Target} {s : State} (h : (s.fan f).state = .starting)
    (ht : ¬ Turns (s.fan f) t) (hn : NoRequest s)
    (hs : ¬ (f ∈ s.arbiter.holders ∧ (s.fan f).reference = t.speed * 10 ∧ AtSpeed (s.fanCfg f) (s.fan f))) :
    targetChange f t s = withTarget f t s := by
  have goesOn : startPhaseTest f (withTarget f t s) = withTarget f t s := if_neg fun k => hs (by
    obtain ⟨_, holds, arrived, fast⟩ := startPhaseOver_iff.mp k
    rw [withTarget_fan] at arrived fast
    exact ⟨holds, arrived, fast⟩)
  rw [goesOn_starting h ht, goesOn]
  exact serve_of_noRequest hn

/-- A stopping fan wanted again in its direction runs on (R55). -/
theorem targetChange_runsAgain {f : Fin 4} {t : Target} {s : State} (h : (s.fan f).state = .stopping)
    (ht : ¬ Turns (s.fan f) t) (hu : Unserved s f) :
    Ends f { s.fan f with target := t, state := .running, verifyTimer := some 0, stallNoted := false }
      (.fanState .running .target) s (targetChange f t s) := by
  obtain ⟨hz, hd⟩ := not_or.mp ht
  have take : takeTarget f t s = s.withFan f
      { s.fan f with target := t, state := .running, verifyTimer := some 0, stallNoted := false } := by
    simp [takeTarget, h, hz, not_not.mp hd]
  exact targetChange_ends (y := { s.fan f with target := t, state := .running, verifyTimer := some 0, stallNoted := false })
    (by rw [take]; exact hu.of_arbiter rfl) (by rw [take]; exact State.withFan_fan_self ..) (by rw [take]; rfl)
    (by rw [h]; nofun) nofun nofun

theorem takeTarget_stopsOn {f : Fin 4} {t : Target} {s : State} (h : (s.fan f).state = .stopping) (ht : Turns (s.fan f) t) :
    takeTarget f t s = withTarget f t s := by
  have stays : ¬ (t.speed ≠ 0 ∧ t.dir = (s.fan f).latched) := fun ⟨hz, hd⟩ => ht.elim hz fun k => k hd
  unfold takeTarget
  simp only [h, if_neg stays, withTarget]

/-- A fan off and out of the arbiter, and not in OFF. -/
def Inert (st : FanState) : Prop := st = .coasting ∨ st = .tripped ∨ st = .lockedOut ∨ st = .inactive

theorem takeTarget_inert {f : Fin 4} {t : Target} {s : State} (h : Inert (s.fan f).state) :
    takeTarget f t s = withTarget f t s := by
  unfold takeTarget
  obtain h | h | h | h := h <;> simp [h, withTarget]

/-- A target of 0 takes back the request for a grant (R49). -/
theorem targetChange_withdraws {f : Fin 4} {t : Target} {s : State} (h : (s.fan f).state = .awaitGrant) (ht : t.speed = 0) :
    Ends f { s.fan f with
      target := t, state := .off, reference := 0, startTimer := none, verifyTimer := none, creditWait := false,
      suspended := false } (.fanState .off .target) s (targetChange f t s) := by
  have take : takeTarget f t s = (leaveArbiter f (withTarget f t s)).withFan f
      (((leaveArbiter f (withTarget f t s)).fan f).outputsOff .off) := by
    simp [takeTarget, h, ht, withTarget]
  refine targetChange_ends (y := { s.fan f with
      target := t, state := .off, reference := 0, startTimer := none, verifyTimer := none, creditWait := false,
      suspended := false }) (by rw [take]; exact (leaveArbiter_unserved ..).of_arbiter rfl) ?_ (by rw [take]; rfl)
    (by rw [h]; nofun) nofun nofun
  rw [take, State.withFan_fan_self, leaveArbiter_fan]
  simp [Fan.outputsOff, h, drives]

/-- A running target in AWAIT_GRANT latches its direction (R49). -/
theorem targetChange_asksOn {f : Fin 4} {t : Target} {s : State} (h : (s.fan f).state = .awaitGrant) (ht : t.speed ≠ 0) :
    targetChange f t s = serve (s.withFan f { s.fan f with target := t, latched := t.dir }) := by
  have take : takeTarget f t s = s.withFan f { s.fan f with target := t, latched := t.dir } := by
    simp [takeTarget, h, ht]
  have state : ((takeTarget f t s).fan f).state = .awaitGrant := by simp [take, h]
  rw [targetChange_eq (by rw [state]; nofun), take]
  exact congrArg serve (if_pos (by simp))

/-- A target in OFF is applied (R48). -/
theorem targetChange_off {f : Fin 4} {t : Target} {s : State} (h : (s.fan f).state = .off) (hu : Unserved s f) :
    Applied f .off .target { s.fan f with target := t } s (targetChange f t s) := by
  have take : takeTarget f t s = reapply f (withTarget f t s) := by simp [takeTarget, h, withTarget]
  have applied := reapply_applied (f := f) (b := .off) (c := .target) (s := withTarget f t s) (by simpa using h)
    (hu.of_arbiter rfl)
  have state : ((takeTarget f t s).fan f).state ≠ .starting := by
    rw [take]
    by_cases hw : Wishes (withTarget f t s) ((withTarget f t s).fan f)
    · rw [reapply_wish (by simpa using h) hw]
      by_cases hi : ((withTarget f t s).fan f).faultInput = true
      · rw [enterAwait_trips hi, trip_fan]
        nofun
      · by_cases hj : MayJoin (withTarget f t s) ((withTarget f t s).fan f)
        · rw [enterAwait_joins (by simpa using hi) hj, State.withArbiter_fan, State.withFan_fan_self]
          nofun
        · rw [enterAwait_creditless (by simpa using hi) hj, State.withFan_fan_self]
          nofun
    · rw [reapply_noWish hw]
      simp [h]
  rw [targetChange_eq state, take, h]
  rw [withTarget_fan] at applied
  exact applied.of_withFan

/-! ### FAN_SET (R44) -/

/-- The fan holds setpoint and mode target `w`, nothing done about it yet. -/
def withWish (f : Fin 4) (w : Target) (s : State) : State := s.withFan f { s.fan f with setpoint := some w, modeTarget := w }

@[simp] theorem withWish_fan (f : Fin 4) (w : Target) (s : State) :
    (withWish f w s).fan f = { s.fan f with setpoint := some w, modeTarget := w } := by simp [withWish]

theorem takeSetpoint_eq {f : Fin 4} {w : Target} {s : State} (h : s.ctl.pressFan ≠ some f) :
    takeSetpoint f w s = if w = (s.fan f).target then withWish f w s else targetChange f w (withWish f w s) := by
  unfold takeSetpoint
  rw [setModeTarget_eq (by simpa using h)]
  simp [withWish]

theorem takeSetpoint_fan_others (f : Fin 4) (w : Target) (s : State) : OtherFans f s (takeSetpoint f w s) := fun g hg hu =>
  (setModeTarget_others f w (s.withFan f { s.fan f with setpoint := some w }) g hg (hu.of_arbiter rfl)).trans
    (s.withFan_fan_of_ne _ hg)

theorem takeSetpoint_refreshed (f : Fin 4) (w : Target) (s : State) :
    Refreshed f w (s.withFan f { s.fan f with setpoint := some w }) (takeSetpoint f w s) := setModeTarget_refreshed ..

theorem fanOfUnit_eq {u : Byte} {f : Fin 4} (h : u.toNat = f.val + 9) : fanOfUnit u.toNat = some f := by
  unfold fanOfUnit
  rw [dif_pos (by omega)]
  exact congrArg some (Fin.ext (by simp [h]))

theorem dirOfCode_dirCode (D : Dir) : dirOfCode (byteOf (dirCode D)).toNat = some D := by cases D <;> rfl

theorem dirOfCode_none {n : Nat} (h : 2 ≤ n) : dirOfCode n = none := by
  unfold dirOfCode
  split
  · omega
  · omega
  · rfl

theorem fanSetTaken_badDir {u dir hi lo : Byte} {f : Fin 4} {s : State} (h : u.toNat = f.val + 9)
    (hd : dirOfCode dir.toNat = none) : fanSetTaken [u, dir, hi, lo] s = refuse .badParam s := by
  simp only [fanSetTaken, fanOfUnit_eq h, withUnit, hd]

theorem be16_eq (n : Nat) : be16 n = [byteOf (n / 256), byteOf n] := rfl

theorem ofBytes_pair (hi lo : Byte) : ofBytes [hi, lo] = hi.toNat * 256 + lo.toNat := by simp [ofBytes]

theorem fanSetTaken_eq {u dir hi lo : Byte} {f : Fin 4} {d : Dir} {s : State} (h : u.toNat = f.val + 9)
    (hd : dirOfCode dir.toNat = some d) : fanSetTaken [u, dir, hi, lo] s =
      if s.modes.mode = .manual then
        done [byteOf (min (hi.toNat * 256 + lo.toNat) 1000 / 256), byteOf (min (hi.toNat * 256 + lo.toNat) 1000)]
          (takeSetpoint f { dir := d, speed := min (hi.toNat * 256 + lo.toNat) 1000 } s)
      else refuse .refused s := by
  simp only [fanSetTaken, fanOfUnit_eq h, withUnit, hd, be16_eq, ofBytes_pair]

theorem fanClearTaken_eq {u : Byte} {f : Fin 4} {s : State} (h : u.toNat = f.val + 9) : fanClearTaken [u] s =
    if (s.fan f).state = .lockedOut then done [] (clearLockout f s) else refuse .refused s := by
  simp only [fanClearTaken, withByte, fanOfUnit_eq h, withUnit]

theorem Applied.lockoutMemory {f : Fin 4} {b : FanState} {c : FanCause} {x : Fan} {s t : State} (h : Applied f b c x s t) :
    (t.fan f).lockoutMemory = x.lockoutMemory := by
  by_cases hw : Wishes s x
  · by_cases hi : x.faultInput = true
    · rw [(h.trips hw hi).1]
      rfl
    · exact (h.asks hw (by simpa using hi)).1.lockoutMemory
  · rw [(h.rests hw).1]

theorem JoinsWaiting.of_same {f : Fin 4} {n : Nat} {s u t : State} (h : JoinsWaiting f n u t) (ha : s.arbiter = u.arbiter)
    (hc : s.ctl = u.ctl) : JoinsWaiting f n s t where
  either := h.either
  granted := by
    simp only [NoRequest, ha, hc]
    exact h.granted
  waits := by
    simp only [ha, hc]
    exact h.waits

/-- FAN_SET where the fan's target is its mode target: the new target's rule for the state of the fan. -/
theorem takeSetpoint_changes {f : Fin 4} {w : Target} {s : State} (hp : s.ctl.pressFan ≠ some f) (hw : w ≠ (s.fan f).target) :
    takeSetpoint f w s = targetChange f w (withWish f w s) := (takeSetpoint_eq hp).trans (if_neg hw)

theorem clearLockout_applied {f : Fin 4} {s : State} (hf : Unserved s f) : Applied f .lockedOut .clear
    ({ s.fan f with tripCount := 0, lastTrip := .noTrip, lockoutMemory := false }.outputsOff .off) s (clearLockout f s) := by
  have applied := enterOff_applied (f := f) (b := .lockedOut) (c := .clear)
    (s := s.withFan f { s.fan f with tripCount := 0, lastTrip := .noTrip, lockoutMemory := false }) (hf.of_arbiter rfl)
  rw [State.withFan_fan_self] at applied
  exact applied.of_withFan

/-- Settles O43: a FAN_SET is a new mode target, a FAN_CLEAR the target applied in OFF. -/
theorem fanRequestsSetAndClear : Obligations.FanRequestsSetAndClear := by
  intro s dest u f hr hu x s'
  refine ⟨fun dir hi lo hd => ?_, fun D hi lo hm => ?_, fun D hi lo hm => ?_, fun h => ?_, fun h hf => ?_⟩
  · exact congrArg Host.Outcome.next (request_answered hr (fanSetTaken_badDir hu (dirOfCode_none hd)))
  · exact congrArg Host.Outcome.next
      (request_answered hr ((fanSetTaken_eq hu (dirOfCode_dirCode D)).trans (if_neg hm)))
  · intro wish
    have refreshed := takeSetpoint_refreshed f wish s'
    have hx : (withWish f wish s').fan f = { x with setpoint := some wish, modeTarget := wish } := withWish_fan ..
    have outside : (withWish f wish s').modes.mode ≠ .incident := fun k => absurd (hm.symm.trans k) nofun
    refine ⟨takeSetpoint f wish s',
      congrArg Host.Outcome.next (request_answered hr ((fanSetTaken_eq hu (dirOfCode_dirCode D)).trans (if_pos hm))),
      (FanFrame.withFan ..).trans refreshed.frame, takeSetpoint_fan_others _ _ s', ?_, refreshed.modeTarget, refreshed.composed,
      fun hp hf h hz hd => ?_, fun hp hw => ?_⟩
    · rw [refreshed.setpoints, State.withFan_fan_self]
    · have free : Unserved (withWish f wish s') f := hf.of_arbiter rfl
      rw [takeSetpoint_eq (s := s') hp]
      split
      · next same =>
        have kept : x.target = wish := same.symm
        rw [hx, ← kept]
      · rw [targetChange_held free
          (takeTarget_goesOn (by rw [hx]; exact .inl h) (by rw [hx]; exact not_or.mpr ⟨hz, not_not.mpr hd⟩))
          (by rw [hx]; exact fun k => absurd (h.symm.trans k) nofun), hx]
    · intro y stops started permitted
      have changes : takeSetpoint f wish s' = targetChange f wish (withWish f wish s') := takeSetpoint_changes hp hw
      have hy : (withTarget f wish (withWish f wish s')).fan f = y := by rw [withTarget_fan, hx]
      rw [changes]
      refine ⟨fun h ht hr => ?_, fun h ht hr => ?_, fun h ht ⟨holds, arrived, fast⟩ => ?_, fun h ht hs hn => ?_,
        fun h ht hf => ?_, fun h ht hf => ?_, fun h hz => ?_, fun h hz => ?_, fun h hz hf => ?_, fun h hz hf => ?_,
        fun h hz hp hf => ?_, fun h hf => ?_⟩
      · have ends := targetChange_stops (s := withWish f wish s') (t := wish) (by rw [hx]; exact h) (by rw [hx]; exact ht) outside
          (by rw [hx]; exact hr)
        rw [hx] at ends
        exact ⟨ends.fan, ends.report⟩
      · have ends := targetChange_stopsAtZero (s := withWish f wish s') (t := wish) (by rw [hx]; exact h)
          (by rw [hx]; exact ht) outside (by rw [hx]; exact hr)
        rw [hx] at ends
        exact ⟨ends.fan, ends.report⟩
      · have ends := targetChange_arrives (s := withWish f wish s') (t := wish) (by rw [hx]; exact h) (by rw [hx]; exact ht)
          holds (by rw [hx]; exact arrived) (by rw [hx]; exact fast)
        rw [hx] at ends
        exact ⟨ends.fan, ends.unserved, ends.report⟩
      · rw [targetChange_startsOn (s := withWish f wish s') (t := wish) (by rw [hx]; exact h) (by rw [hx]; exact ht)
          hn (by rw [hx]; exact hs)]
        exact hy
      · have ends := targetChange_runsAgain (s := withWish f wish s') (t := wish) (by rw [hx]; exact h) (by rw [hx]; exact ht)
          (hf.of_arbiter rfl)
        rw [hx] at ends
        exact ⟨ends.fan, ends.report⟩
      · have free : Unserved (withWish f wish s') f := hf.of_arbiter rfl
        rw [targetChange_held free (takeTarget_stopsOn (by rw [hx]; exact h) (by rw [hx]; exact ht))
          (by rw [hx]; exact fun k => absurd (h.symm.trans k) nofun), hx]
      · have ends := targetChange_withdraws (s := withWish f wish s') (t := wish) (by rw [hx]; exact h) hz
        rw [hx] at ends
        exact ⟨ends.fan, ends.unserved, ends.report⟩
      · rw [targetChange_asksOn (by rw [hx]; exact h) hz, hx]
        have makeup := serve_makeup f ((withWish f wish s').withFan f { y with latched := D })
        have pending := Pending.serve (g := f) (s := (withWish f wish s').withFan f { y with latched := D })
          (by rw [State.withFan_fan_self]; exact ⟨hz, .inl h⟩)
        rw [State.withFan_fan_self] at makeup
        exact ⟨makeup.latched, makeup.target, pending.2.imp_right And.left⟩
      · have free : Unserved ((withWish f wish s').withFan f { y with latched := D }) f := hf.of_arbiter rfl
        rw [targetChange_asksOn (by rw [hx]; exact h) hz, hx]
        exact (serve_fan_of_unserved free).trans (State.withFan_fan_self ..)
      · have applied := targetChange_off (s := withWish f wish s') (t := wish) (by rw [hx]; exact h) (hf.of_arbiter rfl)
        rw [hx] at applied
        exact (applied.rests fun ⟨k, p⟩ => hz.elim k fun n => n p).1
      · have applied := targetChange_off (s := withWish f wish s') (t := wish) (by rw [hx]; exact h) (hf.of_arbiter rfl)
        rw [hx] at applied
        refine ⟨fun hi => ?_, fun hi => ?_, fun hi hn => ?_, fun hi hn => ?_⟩
        · obtain ⟨fan, report⟩ := applied.trips ⟨hz, hp⟩ hi
          exact ⟨by rw [fan]; rfl, by rw [fan]; rfl, report nofun⟩
        · obtain ⟨makeup, report⟩ := applied.asks ⟨hz, hp⟩ hi
          exact ⟨makeup.latched, report nofun⟩
        · exact applied.creditless ⟨hz, hp⟩ hi fun k => k.elim outside (absurd hn)
        · exact (applied.joins ⟨hz, hp⟩ hi (.inr hn)).of_same rfl rfl
      · have free : Unserved (withWish f wish s') f := hf.of_arbiter rfl
        have resting : x.state ≠ .starting := by obtain h | h | h | h := h <;> rw [h] <;> nofun
        rw [targetChange_held free (takeTarget_inert (by rw [hx]; exact h)) (by rw [hx]; exact resting), hx]
  · exact congrArg Host.Outcome.next (request_answered hr ((fanClearTaken_eq hu).trans (if_neg h)))
  · have cleared := clearLockout_applied (f := f) (s := dispatching s) hf
    refine ⟨clearLockout f (dispatching s),
      congrArg Host.Outcome.next (request_answered hr ((fanClearTaken_eq hu).trans (if_pos h))), cleared.frame, cleared.others,
      cleared.lockoutMemory, cleared.target, fun hw => ?_, fun hw hi => ?_, fun hw hi => ?_,
      fun hw hi hj => (cleared.joins hw hi hj).of_same rfl rfl,
      fun hw hi hm hn => cleared.creditless hw hi fun k => k.elim hm (absurd hn)⟩
    · obtain ⟨fan, report⟩ := cleared.rests hw
      exact ⟨by rw [fan]; rfl, by rw [fan]; rfl, by rw [fan]; rfl, report nofun⟩
    · obtain ⟨fan, report⟩ := cleared.trips hw hi
      exact ⟨by rw [fan]; rfl, by rw [fan]; rfl, by rw [fan]; rfl, report nofun⟩
    · obtain ⟨state, latched⟩ := cleared.asked hw hi
      exact ⟨state, cleared.tripCount hi, latched, (cleared.asks hw hi).2 nofun⟩

end Sys2Proof.Machine
end

section
/-! The one slot given on at the trip of its holder (R81, R82, R85, R88). -/

namespace Sys2Proof.Machine

/-! ### The priority order (R82) -/

/-- The first member that satisfies `p` of a list sorted by `place`. -/
theorem find_first {α : Type} {l : List α} {p : α → Bool} {place : α → Nat} (sorted : l.Pairwise (place · < place ·)) {g : α}
    (hg : g ∈ l) (hp : p g = true) (first : ∀ h, place h < place g → p h = false) : l.find? p = some g := by
  induction l with
  | nil => exact absurd hg List.not_mem_nil
  | cons a l ih =>
    obtain ⟨before, rest⟩ := List.pairwise_cons.mp sorted
    obtain rfl | hg := List.mem_cons.mp hg
    · exact List.find?_cons_of_pos hp
    · rw [List.find?_cons_of_neg (by rw [first a (before g hg)]; nofun)]
      exact ih rest hg

theorem allFans_sorted : allFans.Pairwise (fun a b => a.val < b.val) := by decide

theorem fansAfter_sorted (q : Fin 4) : (fansAfter q).Pairwise fun a b => (a - q - 1).val < (b - q - 1).val := by
  revert q
  decide

/-- The order in which the fans stand for a free slot, as a number (R82). -/
def placeOf (s : State) (f : Fin 4) : Nat :=
  match s.ctl.priority, s.arbiter.rotation with
  | .rotating, some q => (f - q - 1).val
  | _, _ => f.val

theorem priorityOrder_sorted (s : State) : (priorityOrder s).Pairwise (placeOf s · < placeOf s ·) := by
  unfold priorityOrder placeOf
  cases s.ctl.priority <;> cases s.arbiter.rotation
  case rotating.some q => exact fansAfter_sorted q
  all_goals exact allFans_sorted

/-! ### One grant and no more -/

theorem serve_once {s t : State} (h : serveOnce s = some t) (k : serveOnce t = none) : serve s = t := by
  simp [serve, serveFor, h, k]

theorem serveOnce_of_full {s : State} (hu : s.arbiter.urgency = false) (hf : slotFree s = false) : serveOnce s = none := by
  have none_urgent : urgentRequest s = none := urgentRequest_eq_none.mpr fun k => by simp [hu] at k
  simp [serveOnce, none_urgent, hf]

theorem serveOnce_of_next {s : State} {g : Fin 4} (hu : s.arbiter.urgency = false) (hf : slotFree s = true)
    (hg : nextRequest s = some g) : serveOnce s = some (grant g s) := by
  have none_urgent : urgentRequest s = none := urgentRequest_eq_none.mpr fun k => by simp [hu] at k
  simp [serveOnce, none_urgent, hf, hg]

/-- The only slot, free and given to the next request. -/
theorem serve_oneSlot {v : State} {g : Fin 4} (hu : v.arbiter.urgency = false) (hh : v.arbiter.holders = [])
    (hs : v.ctl.slotCount = 1) (hg : nextRequest v = some g) (hgrant : grant g v = granting g v) : serve v = granting g v := by
  have full : slotFree (granting g v) = false := by
    simp [slotFree, granting_arbiter, Arbiter.granted, hh, (granting_frame g v).ctl, hs]
  refine serve_once (hgrant ▸ serveOnce_of_next hu (by simp [slotFree, hh, hs]) hg) (serveOnce_of_full ?_ full)
  rw [granting_arbiter]
  exact hu

/-- The request that comes first among the suspended fans (R81, R85). -/
theorem nextRequest_suspended {s : State} {g : Fin 4} {rest : List (Fin 4)} (hu : s.arbiter.urgency = false)
    (hs : s.arbiter.suspended = g :: rest) : nextRequest s = some g := by
  have none_urgent : urgentRequest s = none := urgentRequest_eq_none.mpr fun k => by simp [hu] at k
  simp [nextRequest, none_urgent, hs]

theorem nextRequest_waiting {s : State} {g : Fin 4} (hu : s.arbiter.urgency = false) (hs : s.arbiter.suspended = [])
    (hg : (priorityOrder s).find? (fun h => s.arbiter.waiting[h]'h.isLt) = some g) : nextRequest s = some g := by
  have none_urgent : urgentRequest s = none := urgentRequest_eq_none.mpr fun k => by simp [hu] at k
  simp only [nextRequest, none_urgent, hs]
  exact hg

/-! ### The slot freed by a trip (R74, R81) -/

/-- The only holder tripped and its trip reported, before anyone is served. -/
def tripped (f : Fin 4) (s : State) : State := reportFanChange .starting f .startTimeout (trip f .startTimeout s)

theorem tripped_eq (f : Fin 4) (s : State) : tripped f s =
    report (fanUnit f) (.fanState .tripped .startTimeout) (trip f .startTimeout s) := by
  have state : ((trip f .startTimeout s).fan f).state = .tripped := by rw [trip_fan]; rfl
  have cause : ((trip f .startTimeout s).fan f).lastTrip = .startTimeout := by rw [trip_fan]; rfl
  simp [tripped, reportFanChange, reportFan, state, cause, tripReportCause]

theorem tripped_fan (f : Fin 4) (s : State) : (tripped f s).fan f = (s.fan f).afterTrip .startTimeout := by
  rw [tripped, reportFanChange_fan, trip_fan]

theorem tripped_fan_of_ne {f g : Fin 4} (s : State) (h : g ≠ f) : (tripped f s).fan g = s.fan g := by
  rw [tripped, reportFanChange_fan]
  exact (trip_at f .startTimeout s).fans g h

/-- The arbiter behind the trip of its only holder, on no list. -/
theorem tripped_arbiter {f : Fin 4} {s : State} (hh : s.arbiter.holders = [f]) (hs : f ∉ s.arbiter.suspended)
    (hw : s.arbiter.waiting[f]'f.isLt = false) : (tripped f s).arbiter = { s.arbiter with holders := [] } := by
  have holders : s.arbiter.holders.filter (· != f) = [] := by simp [hh]
  have suspended : s.arbiter.suspended.filter (· != f) = s.arbiter.suspended :=
    List.filter_eq_self.mpr fun g hg => by
      have : g ≠ f := fun e => hs (e ▸ hg)
      simpa using this
  have waiting : s.arbiter.waiting.set f false f.isLt = s.arbiter.waiting := by
    conv_rhs => rw [← Vector.set_getElem_self (xs := s.arbiter.waiting) f.isLt]
    simp only [Fin.getElem_fin] at hw
    rw [hw]
  have left : (tripped f s).arbiter = { s.arbiter with
      holders := s.arbiter.holders.filter (· != f)
      waiting := s.arbiter.waiting.set f false f.isLt
      suspended := s.arbiter.suspended.filter (· != f) } := by rw [tripped_eq]; rfl
  rw [left, holders, suspended, waiting]

theorem grant_waiting {g : Fin 4} {s : State} (h : s.arbiter.suspended = []) : grant g s = granting g s := by
  simp [grant, granting, h]

theorem grant_suspended {g : Fin 4} {s : State} (h : g ∈ s.arbiter.suspended)
    (hr : (s.fan g).reference ≠ (s.fan g).target.speed * 10) : grant g s = granting g s := by
  have given : granting g s = regranted g s := by simp [granting, h]
  have goesOn : startPhaseTest g (regranted g s) = regranted g s := if_neg fun k => hr (by
    simpa [regranted] using (startPhaseOver_iff.mp k).2.2.1)
  rw [given, grant, if_pos (by simpa using h), reGrant_eq, goesOn]

/-- Settles O21: behind the trip the arbiter makes one choice, and the slot is held again. -/
theorem freedSlotGoesToTheFirstRequest : Obligations.FreedSlotGoesToTheFirstRequest := by
  intro s f g τ place hh hc hu hm hst ht hl hlu hfs hfw
  have arbiter := tripped_arbiter hh hfs hfw
  have ctl : (tripped f s).ctl.slotCount = 1 := by rw [tripped_eq]; exact hc
  have urgency : (tripped f s).arbiter.urgency = false := by rw [arbiter]; exact hu
  have holders : (tripped f s).arbiter.holders = [] := by rw [arbiter]
  have reports : (tripped f s).reports = s.reports.arrive (fanUnit f) (.fanState .tripped .startTimeout) := by
    rw [tripped_eq]
    rfl
  have served : startLimitExpiry f s = serve (tripped f s) := by
    rw [startLimitExpiry, if_pos (startLimitReached_iff.mpr ⟨hst, by simp [hh], hlu, τ, ht, hl⟩)]
    exact if_neg (by simpa [State.incident] using hm)
  refine ⟨serve (tripped f s), congrArg Host.Outcome.next served, ?_, fun rest hs hr => ?_, fun hs hw first => ?_⟩
  · rw [serve_fan_of_unserved, tripped_fan]
    exact ⟨by simp [holders], by rw [arbiter]; exact hfw, by rw [arbiter]; exact hfs⟩
  · have hgf : g ≠ f := fun e => hfs (by simp [hs, e])
    have fan := tripped_fan_of_ne s hgf
    have asked : g ∈ (tripped f s).arbiter.suspended := by simp [arbiter, hs]
    have given : granting g (tripped f s) = regranted g (tripped f s) := by simp [granting, asked]
    rw [serve_oneSlot urgency holders ctl (nextRequest_suspended urgency (by rw [arbiter]; exact hs))
      (grant_suspended asked (by rw [fan]; exact hr)), granting_arbiter, given]
    refine ⟨by simp [Arbiter.granted, holders], by simp [Arbiter.granted, arbiter, hs], rfl, ?_, ?_⟩
    · simp [regranted, fan]
    · simp [regranted, reportFan, report, reports, fan]
  · have hgf : g ≠ f := fun e => by
      subst e
      exact absurd (hfw.symm.trans hw) nofun
    have fan := tripped_fan_of_ne s hgf
    have none_suspended : (tripped f s).arbiter.suspended = [] := by rw [arbiter]; exact hs
    have found : (priorityOrder (tripped f s)).find? (fun h => (tripped f s).arbiter.waiting[h]'h.isLt) = some g := by
      have waits (h : Fin 4) : (tripped f s).arbiter.waiting[h]'h.isLt = s.arbiter.waiting[h]'h.isLt := by rw [arbiter]
      have order : priorityOrder (tripped f s) = priorityOrder s := by
        simp only [priorityOrder, arbiter]
        rw [tripped_eq]
        rfl
      simp only [waits, order]
      refine find_first (place := place) ?_ (mem_priorityOrder s g) hw first
      exact priorityOrder_sorted s
    have given : granting g (tripped f s) = firstGrant g (tripped f s) := by simp [granting, none_suspended]
    rw [serve_oneSlot urgency holders ctl (nextRequest_waiting urgency none_suspended found) (grant_waiting none_suspended),
      granting_arbiter, given]
    refine ⟨by simp [Arbiter.granted, holders], by simp [Arbiter.granted], rfl, ?_, ?_⟩
    · simp [firstGrant, Fan.Started, Fan.drawCredit, fan]
    · simp [firstGrant, reportFan, report, reports]

end Sys2Proof.Machine
end

section
/-! The STOP line and RESUME (R148, R150, R151): what they leave of each fan, and the reports they make of it. -/

namespace Sys2Proof.Machine

/-! ### Fans in OFF resumed one after another -/

theorem resumeFan_of_ne {c : FanCause} {f : Fin 4} {s : State} (h : (s.fan f).state ≠ .off) : resumeFan c f s = s := if_neg h

theorem resumeFan_off {c : FanCause} {f : Fin 4} {s : State} (h : (s.fan f).state = .off) :
    resumeFan c f s = serve (reportFanChange .off f c (reapply f s)) := if_pos h

/-- The resumption of another fan reaches this one through the arbiter at most. -/
theorem resumeFan_other {c : FanCause} {f g : Fin 4} (s : State) (h : f ≠ g) :
    ∃ w, w.fan f = s.fan f ∧ (resumeFan c g s = w ∨ resumeFan c g s = serve w) := by
  unfold resumeFan
  split
  · exact ⟨_, by rw [reportFanChange_fan, (reapply_at g s).fans f h], .inr rfl⟩
  · exact ⟨s, rfl, .inl rfl⟩

/-- Fan `f`, found in OFF as `x`, in a part `v` of the event that begins in `u`: where it has a wish it has asked for a grant or has
tripped at that, and the report of it is made. -/
structure Resumed (c : FanCause) (f : Fin 4) (x : Fan) (u v : State) : Prop where
  rests : ¬ Wishes u x → v.fan f = x
  trips : Wishes u x → x.faultInput = true → v.fan f = x.asking.afterTrip .driveFault ∧
    Reported u v (fanUnit f) (.fanState .tripped .driveFault)
  asks : Wishes u x → x.faultInput = false → Pending (v.fan f) ∧ SameMakeup x.asking (v.fan f) ∧
    Reported u v (fanUnit f) (.fanState .awaitGrant c)

theorem Reported.later {u v w : State} {n : Nat} {r : ReportData} (h : Reported u v n r) (k : Queued v.reports w.reports) :
    Reported u w n r := by
  obtain ⟨q, before, arrived⟩ := h
  exact ⟨q, before, arrived.trans k⟩

/-- A resumed fan found in OFF again is the fan that had no wish. -/
theorem Resumed.still_off {c : FanCause} {f : Fin 4} {x : Fan} {u v : State} (h : Resumed c f x u v)
    (hs : (v.fan f).state = .off) : v.fan f = x := by
  by_cases hw : Wishes u x
  · exfalso
    by_cases hi : x.faultInput = true
    · rw [(h.trips hw hi).1] at hs
      exact absurd hs nofun
    · obtain ⟨_, await | ⟨starting, _⟩⟩ := (h.asks hw (by simpa using hi)).1
      · exact absurd (await.symm.trans hs) nofun
      · exact absurd (starting.symm.trans hs) nofun
  · exact h.rests hw

/-- A fan out of the arbiter where its state has no place in it. -/
theorem PlaceOk.unserved {s : State} {f : Fin 4} {st : FanState} (h : PlaceOk s f) (hst : (s.fan f).state = st)
    (hs : st ≠ .starting := by nofun) (ha : st ≠ .awaitGrant := by nofun) : Unserved s f :=
  (h.notServed (hst ▸ hs) (hst ▸ ha)).1

/-- Where a resumption of several fans stands: fan `f` is as it was, or resumed. -/
structure Resuming (c : FanCause) (f : Fin 4) (x : Fan) (u v : State) : Prop where
  inOrder : InOrder v
  frame : FanFrame u v
  fan : v.fan f = x ∨ Resumed c f x u v

theorem Resuming.own {c : FanCause} {f : Fin 4} {x : Fan} {u v : State} (h : Resuming c f x u v) (hx : x.state = .off) :
    Resumed c f x u (resumeFan c f v) := by
  have place := h.inOrder.places f
  by_cases hs : (v.fan f).state = .off
  · have fan : v.fan f = x := h.fan.elim id fun k => k.still_off hs
    have applied := reapply_applied (b := .off) (c := c) hs (place.unserved hs)
    rw [fan, ← resumeFan_off hs] at applied
    have same : Wishes v x = Wishes u x := by unfold Wishes; rw [h.frame.stop]
    have rest : x.reference = 0 := by rw [← fan]; exact place.atRest (by simp [hs, drives])
    refine ⟨fun hw => (applied.rests (by rwa [same])).1, fun hw hi => ?_, fun hw hi => ?_⟩
    · obtain ⟨tripped, report⟩ := applied.trips (by rwa [same]) hi
      exact ⟨tripped, v.reports, h.frame.queued, report nofun⟩
    · have wishes : Wishes v x := by rwa [same]
      obtain ⟨makeup, report⟩ := applied.asks wishes hi
      refine ⟨⟨?_, (applied.asked wishes hi).1.imp_right fun k => ⟨k, ?_⟩⟩, makeup, v.reports, h.frame.queued, report nofun⟩
      · rw [makeup.target]
        exact wishes.1
      · have := applied.reference
        omega
  · rw [resumeFan_of_ne hs]
    exact h.fan.resolve_left fun k => hs (by rw [k, hx])

theorem Resumed.other {c : FanCause} {f g : Fin 4} {x : Fan} {u v : State} (h : Resumed c f x u v) (hx : x.state = .off)
    (ho : InOrder v) (hg : f ≠ g) : Resumed c f x u (resumeFan c g v) := by
  have event := resumeFan_event c g v
  have queued := event.mild.frame.queued
  refine ⟨fun hw => ?_, fun hw hi => ?_, fun hw hi => ?_⟩
  · have fan := h.rests hw
    rw [(event.alone f hg ((ho.places f).unserved (st := .off) (by rw [fan, hx]))).1, fan]
  · obtain ⟨fan, report⟩ := h.trips hw hi
    refine ⟨?_, report.later queued⟩
    rw [(event.alone f hg ((ho.places f).unserved (st := .tripped) (by rw [fan]; rfl))).1, fan]
  · obtain ⟨pending, makeup, report⟩ := h.asks hw hi
    obtain ⟨w, same, rfl | served⟩ := resumeFan_other (c := c) v hg
    · rw [same]
      exact ⟨pending, makeup, report.later queued⟩
    · refine ⟨?_, ?_, report.later queued⟩
      · rw [served]
        exact Pending.serve (by rwa [same])
      · rw [served]
        exact (same ▸ makeup).trans (serve_makeup f w)

theorem Resuming.step {c : FanCause} {f : Fin 4} {x : Fan} {u v : State} (h : Resuming c f x u v) (hx : x.state = .off)
    (g : Fin 4) : Resuming c f x u (resumeFan c g v) := by
  have event := resumeFan_event c g v
  refine ⟨event.orders h.inOrder, h.frame.trans event.mild.frame, ?_⟩
  by_cases hg : f = g
  · subst hg
    exact .inr (h.own hx)
  · refine h.fan.imp (fun fan => ?_) fun k => k.other hx h.inOrder hg
    rw [(event.alone f hg ((h.inOrder.places f).unserved (st := .off) (by rw [fan, hx]))).1, fan]

/-- Every fan in OFF is resumed, in whatever order. -/
theorem resumeAll_resumed {c : FanCause} {u : State} (h : InOrder u) {f : Fin 4} (hf : (u.fan f).state = .off) :
    Resumed c f (u.fan f) u (takeInAnyOrder allFans (resumeFan c) u) := by
  have start : Resuming c f (u.fan f) u u := ⟨h, .refl u, .inl rfl⟩
  refine takeAllFans_all (Resuming c f (u.fan f) u) (fun g v => g = f → Resumed c f (u.fan f) u v) (fun v k => ?_)
    (fun g v k => k.step hf g) (fun g v k hg => ?_) (fun g k v hv done hg => ?_) start f rfl
  · exact ⟨k.inOrder.of_fans (fun _ => rfl) rfl rfl rfl, k.frame.trans (.nextChoice v),
      k.fan.imp id fun r => ⟨r.rests, r.trips, r.asks⟩⟩
  · subst hg
    exact k.own hf
  · subst hg
    by_cases hk : g = k
    · subst hk
      exact hv.own hf
    · exact (done rfl).other hf hv.inOrder hk

theorem resumeFan_held (c : FanCause) (g f : Fin 4) (s : State) : ((resumeFan c g s).fan f).held = (s.fan f).held := by
  have applied : ((reapply g s).fan f).held = (s.fan f).held := by
    by_cases hf : f = g
    · subst hf
      unfold reapply
      split
      · by_cases hi : (s.fan f).faultInput = true
        · rw [enterAwait_trips hi, trip_fan, State.withFan_fan_self]
          rfl
        · by_cases hj : MayJoin s (s.fan f)
          · rw [enterAwait_joins (by simpa using hi) hj, State.withArbiter_fan, State.withFan_fan_self]
            rfl
          · rw [enterAwait_creditless (by simpa using hi) hj, State.withFan_fan_self]
            rfl
      · rfl
    · rw [(reapply_at g s).fans f hf]
  unfold resumeFan
  split
  · rw [(serve_makeup f _).held, reportFanChange_fan, applied]
  · rfl

theorem resumeAll_held (c : FanCause) (f : Fin 4) (s : State) :
    ((takeInAnyOrder allFans (resumeFan c) s).fan f).held = (s.fan f).held :=
  takeInAnyOrder_rel (fun s t => (t.fan f).held = (s.fan f).held) (fun _ => rfl) (fun _ _ _ a b => b.trans a) (fun _ => rfl)
    (resumeFan c) (fun g s => resumeFan_held c g f s) allFans s

theorem resumeAll_frame (c : FanCause) (s : State) : FanFrame s (takeInAnyOrder allFans (resumeFan c) s) :=
  .takeInAnyOrder _ (fun g v => (resumeFan_event c g v).mild.frame) allFans s

/-! ### HELD (R150, R151) -/

/-- HELD set or cleared at every fan. -/
def withHeld (b : Bool) (s : State) : State := takeEach allFans (fun f s => s.withFan f { s.fan f with held := b }) s

theorem withHeld_fan (b : Bool) (s : State) (f : Fin 4) : (withHeld b s).fan f = { s.fan f with held := b } :=
  takeEachFan_fan (w := fun x => { x with held := b }) (fun _ _ => State.withFan_fan_self ..)
    (fun _ _ s h => s.withFan_fan_of_ne _ h) s f

theorem withHeld_eq (b : Bool) (s : State) : withHeld b s = { s with fans := (withHeld b s).fans } :=
  takeEach_rel (fun s t => t = { s with fans := t.fans }) (fun _ => rfl)
    (fun s t u a b => by rw [b, a]) (fun f s => s.withFan f { s.fan f with held := b }) (fun _ _ => rfl) allFans s

theorem withHeld_inOrder {b : Bool} {s : State} (h : InOrder s) : InOrder (withHeld b s) := by
  have same := withHeld_eq b s
  refine ⟨?_, ?_, ?_, fun f => ?_⟩
  · rw [same]; exact h.slots
  · rw [same]; exact h.holdersOnce
  · rw [same]; exact h.suspendedOnce
  · have fan := withHeld_fan b s f
    exact (h.places f).of_same (by rw [same]) (by rw [same]) (by rw [fan]) (by rw [fan]) (by rw [fan]; exact fun _ => Nat.le_refl _)

/-! ### RESUME (R151) -/

theorem inOrder_of_notStopped {s : State} (h : ArbiterOk s) (hs : s.stop.asserted = false) : InOrder s :=
  inOrder_iff.mpr ⟨h, fun k => absurd (hs.symm.trans k) nofun⟩

/-- Settles O25: HELD cleared, then every fan in OFF resumed. -/
theorem resumeClearsHeld : Obligations.ResumeClearsHeld := by
  intro s dest hr
  have taken : resumeTaken [] (dispatching s) =
      if s.stop.asserted then refuse .refused (dispatching s) else done [] (resumeFans (dispatching s)) := rfl
  have anyHeld : (∃ f, (s.fan f).held = true) ↔ (allFans.any fun f => ((dispatching s).fan f).held) = true := by
    simp only [List.any_eq_true]
    exact ⟨fun ⟨f, h⟩ => ⟨f, mem_allFans f, h⟩, fun ⟨f, _, h⟩ => ⟨f, h⟩⟩
  refine ⟨fun h => ?_, fun h hn => ?_, fun h hh ho => ?_⟩
  · exact congrArg Host.Outcome.next (request_answered hr (taken.trans (if_pos h)))
  · have none_held : resumeFans (dispatching s) = dispatching s := if_neg fun k => by
      obtain ⟨f, hf⟩ := anyHeld.mpr k
      exact absurd ((hn f).symm.trans hf) nofun
    refine congrArg Host.Outcome.next (request_answered hr (taken.trans ?_))
    rw [h, none_held]
    rfl
  · have resumed : resumeFans (dispatching s) = takeInAnyOrder allFans (resumeFan .target) (withHeld false (dispatching s)) :=
      if_pos (anyHeld.mp hh)
    have ordered : InOrder (withHeld false (dispatching s)) :=
      withHeld_inOrder ((inOrder_of_notStopped ho h).of_fans (fun _ => rfl) rfl rfl rfl)
    have released : (withHeld false (dispatching s)).stop.asserted = false := by rw [withHeld_eq]; exact h
    have reports : (withHeld false (dispatching s)).reports = s.reports := by rw [withHeld_eq]; rfl
    have fan (f : Fin 4) : (withHeld false (dispatching s)).fan f = { s.fan f with held := false } := withHeld_fan ..
    refine ⟨takeInAnyOrder allFans (resumeFan .target) (withHeld false (dispatching s)),
      congrArg Host.Outcome.next (request_answered hr (taken.trans ?_)), ?_, fun f => ⟨?_, fun hs hz => ?_, fun hs hz => ?_⟩⟩
    · rw [h, resumed]
      rfl
    · refine FanFrame.trans ?_ (resumeAll_frame ..)
      rw [withHeld_eq]
      exact ⟨rfl, .refl _⟩
    · rw [resumeAll_held, fan]
    · have k := resumeAll_resumed (c := .target) ordered (f := f) (by rw [fan]; exact hs)
      rw [k.rests fun hw => hw.1 (by rw [fan]; exact hz), fan]
      exact hs
    · have k := resumeAll_resumed (c := .target) ordered (f := f) (by rw [fan]; exact hs)
      rw [fan] at k
      refine ⟨fun hi => ?_, fun hi => ?_⟩
      · obtain ⟨pending, makeup, report⟩ := k.asks ⟨hz, released, rfl⟩ hi
        refine ⟨pending.2.imp_right And.left, makeup.latched, ?_⟩
        unfold Reported at report ⊢
        rwa [reports] at report
      · obtain ⟨tripped, report⟩ := k.trips ⟨hz, released, rfl⟩ hi
        refine ⟨by rw [tripped]; rfl, by rw [tripped]; rfl, ?_⟩
        unfold Reported at report ⊢
        rwa [reports] at report

/-! ### The STOP line (R148, R150) -/

theorem stopped_awaitGrant {x : Fan} (h : x.state = .awaitGrant) : x.stopped = x.outputsOff .off := by
  simp [Fan.stopped, h]

theorem stopped_drives {x : Fan} (h : drives x.state = true) : x.stopped = x.outputsOff .coasting := by
  unfold Fan.stopped
  cases hs : x.state <;> simp_all [drives]

theorem stopped_resting {x : Fan} (h : busyState x.state = false) : x.stopped = x := by
  unfold Fan.stopped
  cases hs : x.state <;> simp_all [busyState, drives]

theorem stopFan_reports {f : Fin 4} {s : State} (h : busyState (s.fan f).state = true) :
    (stopFan f s).reports = s.reports.arrive (fanUnit f) (.fanState (s.fan f).stopped.state .stopLine) := by
  unfold stopFan Fan.stopped
  cases hs : (s.fan f).state <;> simp_all [busyState, drives, reportFan, report]

theorem stopped_state_congr {x y : Fan} (h : x.state = y.state) : x.stopped.state = y.stopped.state := by
  unfold Fan.stopped
  rw [h]
  split <;> simp_all [Fan.outputsOff]

/-- STOP reports every fan that it takes from a state in which it drives or asks (R148). -/
theorem stopAll_reported {s : State} {f : Fin 4} {st : FanState} (h : busyState (s.fan f).state = true)
    (hst : (s.fan f).stopped.state = st) : Reported s (stopAll s) (fanUnit f) (.fanState st .stopLine) := by
  subst hst
  have own {v : State} (hq : Queued s.reports v.reports) (k : (v.fan f).state = (s.fan f).state ∨
      Reported s v (fanUnit f) (.fanState (s.fan f).stopped.state .stopLine)) :
      Reported s (stopFan f v) (fanUnit f) (.fanState (s.fan f).stopped.state .stopLine) := by
    obtain same | done := k
    · refine ⟨v.reports, hq, ?_⟩
      rw [stopFan_reports (by rwa [same]), stopped_state_congr same]
      exact .refl _
    · exact done.later (stopFan_at f v).frame.queued
  refine takeAllFans_all
    (fun v => Queued s.reports v.reports ∧ ((v.fan f).state = (s.fan f).state ∨
      Reported s v (fanUnit f) (.fanState (s.fan f).stopped.state .stopLine)))
    (fun g v => g = f → Reported s v (fanUnit f) (.fanState (s.fan f).stopped.state .stopLine))
    (fun v k => k) (fun g v ⟨hq, k⟩ => ⟨hq.trans (stopFan_at g v).frame.queued, ?_⟩) (fun g v ⟨hq, k⟩ hg => ?_)
    (fun g k v _ done hg => (done hg).later (stopFan_at k v).frame.queued)
    ⟨(leaveAll_mild s).frame.queued, .inl (by rw [leaveAll_fan])⟩ f rfl
  · by_cases hg : f = g
    · subst hg
      exact .inr (own hq k)
    · exact k.imp (fun same => by rw [stopFan_fan_of_ne _ _ _ hg, same]) fun done =>
        done.later (stopFan_at g v).frame.queued
  · subst hg
    exact own hq k

/-- What STOP leaves of a fan, its places with the arbiter given up (R148). -/
theorem stopAll_fan_cases (s : State) (f : Fin 4) : (stopAll s).fan f =
    if (s.fan f).state = .awaitGrant then
      { s.fan f with
        state := .off, reference := 0, startTimer := none, verifyTimer := none, creditWait := false, suspended := false }
    else if drives (s.fan f).state then (s.fan f).afterCut
    else { s.fan f with creditWait := false, suspended := false } := by
  rw [stopAll_fan]
  split
  · next h =>
    refine (stopped_awaitGrant (by exact h)).trans ?_
    simp [Fan.outputsOff, h, drives]
  · next h =>
    split
    · next hd =>
      refine (stopped_drives (by exact hd)).trans ?_
      simp [Fan.outputsOff, Fan.afterCut, hd]
    · next hd => exact stopped_resting (by simpa [busyState, h] using hd)

/-- Settles O24. -/
theorem stopLineTakesTheFans : Obligations.StopLineTakesTheFans := by
  refine ⟨fun s => ⟨fun h => congrArg Host.Outcome.next (if_pos h), fun h => ?_⟩, fun s => ⟨fun h => ?_, fun h ha => ?_,
    fun h ha ho => ?_⟩⟩
  · have frame := (stopAll_mild (report 0 (.line .stop true) { s with stop := .taken true })).frame
    have asserted : (stopAsserted s).stop = .taken true := by
      rw [stopAsserted_eq h, frame.stop]
      rfl
    have unserved := stopAll_unserved (report 0 (.line .stop true) { s with stop := .taken true })
    refine ⟨stopAsserted s, rfl, ?_, by rw [asserted]; rfl, ?_⟩
    · rw [asserted, stopAsserted_eq h]
      exact (FanFrame.report ..).trans frame
    rw [stopAsserted_eq h]
    refine ⟨holders_of_unserved unserved, (noRequest_of_unserved unserved).2, (noRequest_of_unserved unserved).1, frame.queued,
      fun f => ⟨stopAll_fan_cases .., fun hs => ?_, fun hs => ?_⟩⟩
    · have ⟨q, hq, report⟩ := stopAll_reported (s := report 0 (.line .stop true) { s with stop := .taken true }) (f := f)
        (st := .off) (show busyState (s.fan f).state = true by simp [busyState, hs])
        (congrArg Fan.state (stopped_awaitGrant (x := s.fan f) hs))
      exact ⟨q, (Queued.arrive ..).trans hq, report⟩
    · have ⟨q, hq, report⟩ := stopAll_reported (s := report 0 (.line .stop true) { s with stop := .taken true }) (f := f)
        (st := .coasting) (show busyState (s.fan f).state = true by simp [busyState, hs])
        (congrArg Fan.state (stopped_drives (x := s.fan f) hs))
      exact ⟨q, (Queued.arrive ..).trans hq, report⟩
  · exact congrArg Host.Outcome.next (if_neg (by simp [h]))
  · have held : ¬ s.ctl.autoResume = true := by simp [ha]
    have released : stopReleased s = withHeld true (report 0 (.line .stop false) { s with stop := .taken false }) :=
      (if_pos h).trans (if_neg held)
    refine ⟨_, congrArg Host.Outcome.next released, withHeld_eq .., fun f => withHeld_fan ..⟩
  · have released : stopReleased s = takeInAnyOrder allFans (resumeFan .stopLine)
        (report 0 (.line .stop false) { s with stop := .taken false }) := (if_pos h).trans (if_pos ha)
    have ordered : InOrder (report 0 (.line .stop false) { s with stop := .taken false }) :=
      inOrder_of_notStopped ⟨ho.slots, ho.holdersOnce, ho.holdersStart, ho.suspendedOnce, ho.suspendedStart, ho.waitingAwait,
        ho.creditWaitAwait, ho.awaits, ho.atRest⟩ rfl
    refine ⟨_, congrArg Host.Outcome.next released, ?_, ?_, fun f => ⟨resumeAll_held .., fun hs hn => ?_, fun hs hh hz => ?_⟩⟩
    · exact (FanFrame.report ..).trans (resumeAll_frame ..)
    · exact (resumeAll_frame _ _).queued
    · have k := resumeAll_resumed (c := .stopLine) ordered (f := f) hs
      rw [k.rests fun ⟨hz, _, hh⟩ => hn.elim (fun e => absurd (e.symm.trans hh) nofun) hz]
      exact hs
    · have k := resumeAll_resumed (c := .stopLine) ordered (f := f) hs
      refine ⟨fun hi => ?_, fun hi => ?_⟩
      · obtain ⟨pending, makeup, q, hq, report⟩ := k.asks ⟨hz, rfl, hh⟩ hi
        exact ⟨pending.2.imp_right And.left, makeup.latched, q, (Queued.arrive ..).trans hq, report⟩
      · obtain ⟨tripped, q, hq, report⟩ := k.trips ⟨hz, rfl, hh⟩ hi
        exact ⟨by rw [tripped]; rfl, by rw [tripped]; rfl, q, (Queued.arrive ..).trans hq, report⟩

end Sys2Proof.Machine
end

section
/-! The mode controller outside INCIDENT: SET_MODE, MANUAL left for AUTO, and the loss of the line (R44, R130 to R132, R145). -/

namespace Sys2Proof.Machine

/-! ### MANUAL left for AUTO (R132) -/

theorem autoTarget_eq_autoWish (s : State) (f : Fin 4) : autoTarget s f = autoWish s f := by
  have table (n : Nat) (p : FanSettings) : tableSpeed p n =
      if n = 0 then p.speed0 else if n = 1 then p.speed1 else if n = 2 then p.speed2 else p.speed3 := by
    unfold tableSpeed
    split
    · rfl
    · rfl
    · rfl
    · next h0 h1 h2 => rw [if_neg h0, if_neg h1, if_neg h2]
  simp only [autoTarget, autoWish, table]

/-- Every fan refreshed in AUTO is at the target that its mode target gives it. -/
theorem refreshAutoAll_composed {s : State} (h : s.modes.mode = .auto) (f : Fin 4) :
    ComposedAt (takeInAnyOrder allFans refreshAuto s) f :=
  takeAllFans_all (fun u => u.modes.mode = .auto) (fun f u => ComposedAt u f) (fun _ => id)
    (fun g u hu => by rw [(refreshAuto_frame g u).modes]; exact hu) (fun _ _ hu => (refreshAuto_refreshed hu).composed)
    (fun f g u _ hf => (refreshAuto_sound g u).composed f hf) h f

theorem refreshAuto_setpoint (f g : Fin 4) (s : State) : ((refreshAuto g s).fan f).setpoint = (s.fan f).setpoint := by
  unfold refreshAuto
  split
  · exact (setModeTarget_refreshed ..).setpoints f
  · rfl

theorem refreshAutoAll_setpoint (f : Fin 4) (s : State) :
    ((takeInAnyOrder allFans refreshAuto s).fan f).setpoint = (s.fan f).setpoint :=
  takeInAnyOrder_rel (fun s t => (t.fan f).setpoint = (s.fan f).setpoint) (fun _ => rfl) (fun _ _ _ a b => b.trans a)
    (fun _ => rfl) refreshAuto (fun g s => refreshAuto_setpoint f g s) allFans s

theorem discardSetpoints_eq (s : State) : discardSetpoints s = { s with fans := (discardSetpoints s).fans } :=
  takeEach_rel (fun s t => t = { s with fans := t.fans }) (fun _ => rfl) (fun s t u a b => by rw [b, a])
    (fun f s => s.withFan f { s.fan f with setpoint := none }) (fun _ _ => rfl) allFans s

theorem leaveManual_left (cause : ModeCause) (s : State) : LeftManual cause s (leaveManual cause s) := by
  have frame : FanFrame (reportMode cause 0 (s.withModes { s.modes with mode := .auto })) (leaveManual cause s) :=
    (discardSetpoints_frame _).trans (refreshAutoAll_frame _)
  have auto : (manualLeft cause s).modes.mode = .auto := by rw [manualLeft_modes]
  refine ⟨(FanFrame.report ..).trans frame, frame.queued, fun f => ⟨?_, ?_, refreshAutoAll_composed auto f⟩⟩
  · rw [leaveManual_eq, refreshAutoAll_setpoint, manualLeft, discardSetpoints_fan]
  · rw [← autoTarget_eq_autoWish]
    exact refreshAutoAll_modeTarget auto f

/-! ### SET_MODE (R131, R132) -/

theorem setModeTaken_badParam {v : Byte} {s : State} (h : 2 ≤ v.toNat) : setModeTaken [v] s = refuse .badParam s := by
  have none : requestedMode v.toNat = none := by
    unfold requestedMode
    rw [if_neg (by omega), if_neg (by omega)]
  simp only [setModeTaken, withByte, none]

theorem setModeTaken_eq {v : Byte} {m : Mode} {s : State} (h : requestedMode v.toNat = some m) : setModeTaken [v] s =
    if s.incident then refuse .refused s
    else if m = .manual ∧ s.maint.asserted = false then refuse .noKey s
    else done [] (changeMode m s) := by
  simp only [setModeTaken, withByte, h]

theorem setModeTaken_accepted {v : Byte} {m : Mode} {s : State} (h : requestedMode v.toNat = some m)
    (hm : s.modes.mode ≠ .incident) (hk : m = .manual → s.maint.asserted = true) :
    setModeTaken [v] s = done [] (changeMode m s) := by
  have key : ¬ (m = .manual ∧ s.maint.asserted = false) := fun ⟨e, k⟩ => absurd (k.symm.trans (hk e)) nofun
  rw [setModeTaken_eq h, if_neg (by simpa [State.incident] using hm), if_neg key]

theorem enterManual_eq (s : State) : enterManual s = { s with
    modes := { s.modes with mode := .manual }
    fans := (enterManual s).fans
    reports := s.reports.arrive 0 (.mode .manual s.modes.engaged .setMode 0) } := by
  have same := discardSetpoints_eq (s.withModes { s.modes with mode := .manual })
  unfold enterManual
  rw [same]
  rfl

theorem requestedMode_zero : requestedMode (0 : Byte).toNat = some .auto := rfl

theorem requestedMode_one : requestedMode (1 : Byte).toNat = some .manual := rfl

/-- Settles O39. -/
theorem modeRequestsAndLineLoss : Obligations.ModeRequestsAndLineLoss := by
  refine ⟨fun s dest v => ?_, fun s => ?_⟩
  · intro c answers hr
    have answer {code : ResultCode} {t : State} (h : setModeTaken [v] (dispatching s) = (t, ⟨code, []⟩)) :
        exec c s = .next (answered 0x30 dest code [] t) := congrArg Host.Outcome.next (request_answered hr h)
    refine ⟨fun h => ?_, fun h hm => ?_, fun h hm hk => ?_, fun h hm => ?_, fun h hm hk => ?_, fun h hm hk => ?_, fun h hm => ?_⟩
    · exact answer (setModeTaken_badParam h)
    · have some_mode : ∃ m, requestedMode v.toNat = some m := by
        unfold requestedMode
        by_cases h0 : v.toNat = 0
        · exact ⟨_, if_pos h0⟩
        · exact ⟨_, (if_neg h0).trans (if_pos (by omega))⟩
      obtain ⟨m, hv⟩ := some_mode
      exact answer ((setModeTaken_eq hv).trans (if_pos (by simpa [State.incident, dispatching] using hm)))
    · subst h
      exact answer ((setModeTaken_eq requestedMode_one).trans
        ((if_neg (by simpa [State.incident, dispatching] using hm)).trans (if_pos ⟨rfl, hk⟩)))
    · subst h
      refine answer ((setModeTaken_accepted requestedMode_zero (by simp [dispatching, hm]) nofun).trans ?_)
      rw [changeMode, if_pos (by simpa [dispatching] using hm)]
      rfl
    · subst h
      refine answer ((setModeTaken_accepted (s := dispatching s) requestedMode_one (by simp [dispatching, hm]) fun _ => hk).trans ?_)
      rw [changeMode, if_pos (by simpa [dispatching] using hm)]
      rfl
    · subst h
      refine ⟨enterManual (dispatching s), answer
        ((setModeTaken_accepted (s := dispatching s) requestedMode_one (by simp [dispatching, hm]) fun _ => hk).trans ?_),
        enterManual_eq (dispatching s), fun f => discardSetpoints_fan _ f⟩
      rw [changeMode, if_neg (by simp [dispatching, hm])]
      rfl
    · subst h
      refine ⟨leaveManual .setMode (dispatching s), answer
        ((setModeTaken_accepted requestedMode_zero (by simp [dispatching, hm]) nofun).trans ?_), leaveManual_left ..⟩
      rw [changeMode, if_neg (by simp [dispatching, hm])]
      rfl
  · intro lost
    refine ⟨fun h => congrArg Host.Outcome.next ?_, fun h hm => congrArg Host.Outcome.next ?_, fun h hm =>
      ⟨leaveManual .lineLost lost, congrArg Host.Outcome.next ?_, leaveManual_left ..⟩⟩
    · exact if_neg (by simp [h])
    · exact (if_pos (Option.isSome_iff_ne_none.mpr h)).trans (if_neg hm)
    · exact (if_pos (Option.isSome_iff_ne_none.mpr h)).trans (if_pos hm)

end Sys2Proof.Machine
end

section
/-! The tach input: what it measures and when it hands a speed to its fan (R54, R66 to R71, R73, R75). -/

namespace Sys2Proof.Machine

/-! ### A speed handed to the fan (R71) -/

/-- The fan with its tach input in state `y`, the standstill time at 0 where `y` measures a speed (R54). -/
def Fan.measured (y : Tach) (x : Fan) : Fan := { x with tach := y, standstill := if y.rpm = 0 then x.standstill else 0 }

theorem handRpm_eq (f : Fin 4) (y : Tach) (s : State) :
    (((s.fan f).state = .starting) →
      handRpm f (s.withTach f y) = serve (startPhaseTest f (s.withFan f ((s.fan f).measured y)))) ∧
    ((s.fan f).state = .running → AtSpeed (s.fanCfg f) { s.fan f with tach := y } →
      handRpm f (s.withTach f y) = s.withFan f { (s.fan f).measured y with verifyTimer := some 0 }) ∧
    ((s.fan f).state = .running → ¬ AtSpeed (s.fanCfg f) { s.fan f with tach := y } →
      handRpm f (s.withTach f y) = s.withFan f ((s.fan f).measured y)) ∧
    ((s.fan f).state ≠ .starting → (s.fan f).state ≠ .running →
      handRpm f (s.withTach f y) = s.withFan f ((s.fan f).measured y)) := by
  have measured : (if ((s.withTach f y).fan f).tach.rpm = 0 then s.withTach f y
      else (s.withTach f y).withFan f { (s.withTach f y).fan f with standstill := 0 }) =
      s.withFan f ((s.fan f).measured y) := by
    by_cases h : y.rpm = 0 <;> simp [h, Fan.measured, State.withTach]
  have speed : (!hasTach (s.withFan f ((s.fan f).measured y)) f || upToSpeed (s.withFan f ((s.fan f).measured y)) f) = true ↔
      AtSpeed (s.fanCfg f) { s.fan f with tach := y } := by
    rw [atSpeed_iff, State.withFan_fan_self]
    exact Iff.rfl
  unfold handRpm
  dsimp only
  rw [measured, State.withTach_fan_self]
  refine ⟨fun h => ?_, fun h fast => ?_, fun h slow => ?_, fun hs hr => ?_⟩
  · simp only [h]
  · simp only [h]
    rw [if_pos (speed.mpr fast), State.withFan_fan_self, State.withFan_withFan]
  · simp only [h]
    rw [if_neg fun k => slow (speed.mp k)]
  · split <;> simp_all

theorem handRpm_taken (f : Fin 4) (y : Tach) (s : State) : SpeedTaken f y s (handRpm f (s.withTach f y)) := by
  obtain ⟨starting, fast, slow, elsewhere⟩ := handRpm_eq f y s
  have event := (FanEvent.withTach f y s).trans (handRpm_event f (s.withTach f y))
  refine ⟨event.mild.frame, event.otherFans, ?_, elsewhere, fun h => ⟨fast h, slow h⟩, fun h holds arrived at_speed => ?_,
    fun h none_asks goesOn => ?_⟩
  · by_cases hs : (s.fan f).state = .starting
    · rw [starting hs, (serve_makeup f _).tach, (startPhaseTest_makeup f f _).tach, State.withFan_fan_self]
      rfl
    · by_cases hr : (s.fan f).state = .running
      · by_cases ha : AtSpeed (s.fanCfg f) { s.fan f with tach := y }
        · rw [fast hr ha, State.withFan_fan_self]
          rfl
        · rw [slow hr ha, State.withFan_fan_self]
          rfl
      · rw [elsewhere hs hr, State.withFan_fan_self]
        rfl
  · have ended : startPhaseOver (s.withFan f ((s.fan f).measured y)) f = true := startPhaseOver_iff.mpr (by
      rw [State.withFan_fan_self]
      exact ⟨h, holds, arrived, at_speed⟩)
    have ends := testStartPhase_ends ended
    rw [State.withFan_fan_self] at ends
    rw [starting h]
    exact ⟨ends.of_withFan.fan, ends.unserved, ends.report⟩
  · have phase : startPhaseTest f (s.withFan f ((s.fan f).measured y)) = s.withFan f ((s.fan f).measured y) :=
      if_neg fun k => goesOn (by
        obtain ⟨_, holds, arrived, at_speed⟩ := startPhaseOver_iff.mp k
        rw [State.withFan_fan_self] at arrived at_speed
        exact ⟨holds, arrived, at_speed⟩)
    rw [starting h, phase]
    exact serve_of_noRequest none_asks

theorem withTach_withFan (f : Fin 4) (x : Fan) (y : Tach) (s : State) :
    (s.withFan f x).withTach f y = s.withFan f { x with tach := y } := by simp [State.withTach]

/-- The tach input may run on behind a speed that it has handed over. -/
theorem SpeedTaken.withTach {f : Fin 4} {y z : Tach} {s t : State} (h : SpeedTaken f y s t) (hz : z.rpm = y.rpm) :
    SpeedTaken f z s (t.withTach f z) where
  frame := h.frame.trans (.withTach ..)
  others g hg hu := (t.withTach_fan_of_ne z hg).trans (h.others g hg hu)
  tach := by simp
  elsewhere hs hr := by
    rw [h.elsewhere hs hr, withTach_withFan, hz]
  running hs := by
    obtain ⟨fast, slow⟩ := h.running hs
    refine ⟨fun ha => ?_, fun ha => ?_⟩
    · rw [fast (by simpa [AtSpeed, hz] using ha), withTach_withFan, hz]
    · rw [slow (by simpa [AtSpeed, hz] using ha), withTach_withFan, hz]
  startOver hs hh hr ha := by
    obtain ⟨fan, unserved, report⟩ := h.startOver hs hh hr (by simpa [AtSpeed, hz] using ha)
    refine ⟨?_, unserved.of_arbiter rfl, report⟩
    rw [State.withTach_fan_self, fan, hz]
    rfl
  startGoesOn hs hn hg := by
    rw [h.startGoesOn hs hn (by simpa [AtSpeed, hz] using hg), withTach_withFan, hz]

theorem measured_again {y z : Tach} {x : Fan} (hz : z.rpm = y.rpm) : (x.measured y).measured z = x.measured z := by
  unfold Fan.measured
  by_cases h : y.rpm = 0 <;> simp [hz, h]

/-- The same speed handed over once more, at the end of a state of the tach input that measures it still. -/
theorem handRpm_again {f : Fin 4} {y z : Tach} {s : State} (hz : z.rpm = y.rpm) :
    SpeedTaken f z s (handRpm f ((handRpm f (s.withTach f y)).withTach f z)) := by
  have first := handRpm_taken f y s
  have event := ((FanEvent.withTach f y s).trans (handRpm_event f (s.withTach f y))).trans
    ((FanEvent.withTach f z _).trans (handRpm_event f ((handRpm f (s.withTach f y)).withTach f z)))
  have again := handRpm_taken f z (handRpm f (s.withTach f y))
  generalize handRpm f (s.withTach f y) = t at first again event
  have speed {x : Fan} : AtSpeed (s.fanCfg f) { x.measured y with tach := z } ↔ AtSpeed (s.fanCfg f) { x with tach := z } :=
    Iff.rfl
  have same_speed {x : Fan} : AtSpeed (s.fanCfg f) { x with tach := y } ↔ AtSpeed (s.fanCfg f) { x with tach := z } := by
    simp [AtSpeed, hz]
  refine ⟨event.mild.frame, event.otherFans, again.tach, fun hs hr => ?_, fun hr => ⟨fun ha => ?_, fun ha => ?_⟩,
    fun hs hh harr ha => ?_, fun hs hn hg => ?_⟩
  · have ht : t = s.withFan f ((s.fan f).measured y) := first.elsewhere hs hr
    have fan : t.fan f = (s.fan f).measured y := by rw [ht, State.withFan_fan_self]
    have moved : _ = t.withFan f ((t.fan f).measured z) := again.elsewhere (by rw [fan]; exact hs) (by rw [fan]; exact hr)
    rw [moved, fan, measured_again hz, ht, State.withFan_withFan]
    rfl
  · have ht : t = s.withFan f { (s.fan f).measured y with verifyTimer := some 0 } := (first.running hr).1 (same_speed.mpr ha)
    have fan : t.fan f = { (s.fan f).measured y with verifyTimer := some 0 } := by rw [ht, State.withFan_fan_self]
    have moved := (again.running (by rw [fan]; exact hr)).1 (by rw [fan, first.frame.fanCfg]; exact ha)
    rw [moved, fan, ht, State.withFan_withFan]
    exact congrArg (s.withFan f) (congrArg (fun x : Fan => { x with verifyTimer := some 0 }) (measured_again (x := s.fan f) hz))
  · have ht : t = s.withFan f ((s.fan f).measured y) := (first.running hr).2 fun k => ha (same_speed.mp k)
    have fan : t.fan f = (s.fan f).measured y := by rw [ht, State.withFan_fan_self]
    have moved : _ = t.withFan f ((t.fan f).measured z) :=
      (again.running (by rw [fan]; exact hr)).2 (by rw [fan, first.frame.fanCfg]; exact ha)
    rw [moved, fan, measured_again hz, ht, State.withFan_withFan]
    rfl
  · obtain ⟨fan, unserved, report⟩ := first.startOver hs hh harr (same_speed.mpr ha)
    have fan : t.fan f = ((s.fan f).measured y).afterStart := fan
    have moved := (again.running (by rw [fan]; rfl)).1 (by rw [fan, first.frame.fanCfg]; exact ha)
    rw [moved]
    refine ⟨?_, unserved.of_arbiter rfl, report⟩
    rw [State.withFan_fan_self, fan]
    exact congrArg Fan.afterStart (measured_again (x := s.fan f) hz)
  · have goesOn : ¬ (f ∈ s.arbiter.holders ∧ (s.fan f).reference = (s.fan f).target.speed * 10 ∧
        AtSpeed (s.fanCfg f) { s.fan f with tach := y }) := fun ⟨holds, arrived, fast⟩ => hg ⟨holds, arrived, same_speed.mp fast⟩
    have ht : t = s.withFan f ((s.fan f).measured y) := first.startGoesOn hs hn goesOn
    have fan : t.fan f = (s.fan f).measured y := by rw [ht, State.withFan_fan_self]
    have moved : _ = t.withFan f ((t.fan f).measured z) :=
      again.startGoesOn (by rw [fan]; exact hs) (by rw [ht]; exact hn) (by rw [fan, first.frame.fanCfg, ht]; exact hg)
    rw [moved, fan, measured_again hz, ht, State.withFan_withFan]
    rfl

/-! ### The timeout (R69) -/

/-- The tach input behind its timeout: no speed, and the period closed. -/
def Tach.expired (t : Tach) : Tach := { t with rpm := 0, periodAge := none, lastPeriod := none, timeout := none }

theorem tachExpires_eq (f : Fin 4) (z : Tach) (s : State) :
    tachExpires f (s.withTach f z) = handRpm f (s.withTach f z.expired) := by
  simp [tachExpires, State.withTach_withTach, Tach.expired]

theorem Tach.run_zero (t : Tach) : t.run 0 = t := by
  obtain ⟨⟩ := t
  simp [Tach.run]

theorem withTach_self (f : Fin 4) (s : State) : s.withTach f (s.fan f).tach = s := s.withFan_fan f

theorem handRpm_tach (f : Fin 4) (s : State) : ((handRpm f s).fan f).tach = (s.fan f).tach := by
  have := (handRpm_taken f (s.fan f).tach s).tach
  rwa [withTach_self] at this

theorem tachExpires_tach (f : Fin 4) (s : State) : ((tachExpires f s).fan f).tach = (s.fan f).tach.expired := by
  rw [tachExpires, handRpm_tach, State.withTach_fan_self]
  rfl

/-- Whether the timeout expires within `us` µs (R69). -/
theorem timeout_any {t : Tach} {us limit : Nat} : (t.timeout.any fun τ => decide (limit ≤ τ + us)) = false ↔
    ∀ τ, t.timeout = some τ → τ + us < limit := by
  cases t.timeout <;> simp

theorem tachPasses_quiet {f : Fin 4} {us : Nat} {s : State}
    (h : ∀ τ, (s.fan f).tach.timeout = some τ → τ + us < 2000000) :
    tachPasses f us s = s.withTach f ((s.fan f).tach.run us) := by
  have quiet : ((s.fan f).tach.timeout.any fun t => tachLimit ≤ t + us) = false := timeout_any.mpr h
  simp [tachPasses, quiet]

theorem tachPasses_late {f : Fin 4} {us τ : Nat} {s : State} (h : (s.fan f).tach.timeout = some τ) (hτ : 2000000 ≤ τ + us) :
    tachPasses f us s = (tachExpires f s).withTach f ((s.fan f).tach.expired.run us) := by
  have late : ((s.fan f).tach.timeout.any fun t => tachLimit ≤ t + us) = true := by simp [h, tachLimit, hτ]
  unfold tachPasses
  rw [if_pos late]
  dsimp only
  rw [tachExpires_tach]

theorem tachReachesEdge_quiet {f : Fin 4} {us : Nat} {s : State}
    (h : ∀ τ, (s.fan f).tach.timeout = some τ → τ + us ≤ 2000000) :
    tachReachesEdge f us s = s.withTach f ((s.fan f).tach.run us) := by
  have quiet : ((s.fan f).tach.timeout.any fun t => tachLimit < t + us) = false := by
    cases ht : (s.fan f).tach.timeout with
    | none => rfl
    | some τ =>
      have := h τ ht
      exact decide_eq_false (Nat.not_lt.mpr this)
  simp [tachReachesEdge, quiet]

theorem tachReachesEdge_late {f : Fin 4} {us τ : Nat} {s : State} (h : (s.fan f).tach.timeout = some τ)
    (hτ : 2000000 < τ + us) :
    tachReachesEdge f us s = (tachExpires f s).withTach f ((s.fan f).tach.expired.run us) := by
  have late : ((s.fan f).tach.timeout.any fun t => tachLimit < t + us) = true := by simp [h, tachLimit, hτ]
  unfold tachReachesEdge
  rw [if_pos late]
  dsimp only
  rw [tachExpires_tach]

/-- Time that passes at one stretch or behind an instant without any. -/
theorem tachPasses_zero (f : Fin 4) (us : Nat) (s : State) : tachPasses f us (tachPasses f 0 s) = tachPasses f us s := by
  by_cases quiet : ∀ τ, (s.fan f).tach.timeout = some τ → τ + 0 < 2000000
  · rw [tachPasses_quiet quiet, Tach.run_zero, withTach_self]
  · simp only [not_forall] at quiet
    obtain ⟨τ, h, hτ⟩ := quiet
    have due : 2000000 ≤ τ := Nat.not_lt.mp hτ
    rw [tachPasses_late h due, tachPasses_late (us := us) h (due.trans (Nat.le_add_right ..)),
      tachPasses_quiet (by simp [Tach.run, Tach.expired])]
    rw [State.withTach_withTach, State.withTach_fan_self, Tach.run_zero]

/-! ### An accepted edge (R66, R67, R68, R70) -/

/-- The level of the pin accepted (R66). -/
def Tach.edged (t : Tach) : Tach := { t with level := t.pin, disagreement := 0 }

/-- The tach settings taken into force (R70). -/
def Tach.under (cfg : FanSettings) (t : Tach) : Tach :=
  { t with prescale := cfg.prescale, filterN := cfg.filterN, pulses := cfg.pulsesPerRev, prescaleCount := 0, periodAge := none }

/-- The tach settings in force are the working ones (R70). -/
def Tach.Current (cfg : FanSettings) (t : Tach) : Prop :=
  t.prescale = cfg.prescale ∧ t.filterN = cfg.filterN ∧ t.pulses = cfg.pulsesPerRev

theorem tachSettingsDiffer_iff {cfg : FanSettings} {t : Tach} : tachSettingsDiffer cfg t = false ↔ t.Current cfg := by
  simp [tachSettingsDiffer, Tach.Current, and_assoc]

/-- The edge that the accepted level now counts is the one that fills the prescale (R67). -/
def Tach.Fills (t : Tach) : Prop := t.pin = true ∧ t.prescale ≤ t.prescaleCount + 1

theorem takeEdge_settings {f : Fin 4} {z : Tach} {s : State} (h : ¬ z.Current (s.fanCfg f)) :
    (¬ (z.pulses ≠ 0 ∧ (s.fanCfg f).pulsesPerRev = 0) →
      takeEdge f (s.withTach f z) = s.withTach f (z.edged.under (s.fanCfg f))) ∧
    (z.pulses ≠ 0 ∧ (s.fanCfg f).pulsesPerRev = 0 → takeEdge f (s.withTach f z) =
      handRpm f (s.withTach f { z.edged.under (s.fanCfg f) with rpm := 0, lastPeriod := none })) := by
  have differ : tachSettingsDiffer (s.fanCfg f) z.edged = true :=
    (Bool.eq_false_or_eq_true _).resolve_right fun k => h (tachSettingsDiffer_iff.mp k)
  have taken : takeEdge f (s.withTach f z) = takeTachSettings f (s.withTach f z.edged) := by
    unfold takeEdge
    simp only [State.withTach_fan_self, State.withTach_withTach, State.withTach_fanCfg]
    exact if_pos differ
  refine ⟨fun hp => ?_, fun hp => ?_⟩
  · rw [taken, takeTachSettings]
    simp only [State.withTach_fan_self, State.withTach_withTach, State.withTach_fanCfg]
    exact if_neg hp
  · rw [taken, takeTachSettings]
    simp only [State.withTach_fan_self, State.withTach_withTach, State.withTach_fanCfg]
    exact if_pos hp

theorem takeEdge_counts {f : Fin 4} {z : Tach} {s : State} (h : z.Current (s.fanCfg f)) (hf : ¬ z.Fills) :
    takeEdge f (s.withTach f z) = s.withTach f { z.edged with
      prescaleCount := if z.pin then z.prescaleCount + 1 else z.prescaleCount } := by
  have current : tachSettingsDiffer (s.fanCfg f) z.edged = false := tachSettingsDiffer_iff.mpr h
  unfold takeEdge
  simp only [State.withTach_fan_self, State.withTach_withTach, State.withTach_fanCfg]
  refine (if_neg (by simpa [Tach.edged] using current)).trans ?_
  cases hp : z.pin with
  | false => simp [Tach.edged, hp]
  | true =>
    have few : ¬ z.prescale ≤ z.prescaleCount + 1 := fun k => hf ⟨hp, k⟩
    simp [countEdge, few, State.withTach_withTach, Tach.edged, hp]

theorem takeEdge_fills {f : Fin 4} {z : Tach} {s : State} (h : z.Current (s.fanCfg f)) (hf : z.Fills) :
    takeEdge f (s.withTach f z) = prescaledEdge f (s.withTach f z.edged) := by
  have current : tachSettingsDiffer (s.fanCfg f) z.edged = false := tachSettingsDiffer_iff.mpr h
  obtain ⟨hp, full⟩ := hf
  unfold takeEdge
  simp only [State.withTach_fan_self, State.withTach_withTach, State.withTach_fanCfg]
  refine (if_neg (by simpa [Tach.edged] using current)).trans ?_
  simp [countEdge, hp, full, Tach.edged]

theorem takeEdge_tach (f : Fin 4) (s : State) : ((takeEdge f s).fan f).tach.pin = (s.fan f).tach.pin ∧
    ((takeEdge f s).fan f).tach.level = (s.fan f).tach.pin ∧ ((takeEdge f s).fan f).tach.disagreement = 0 := by
  unfold takeEdge takeTachSettings countEdge prescaledEdge
  dsimp only
  split
  · split <;> simp [handRpm_tach]
  · split
    · split
      · split
        · split <;> simp [handRpm_tach]
        · simp
      · simp
    · simp

end Sys2Proof.Machine
end

section
/-! The samples of the tach input up to an accepted edge and behind it (R66 to R70). -/

namespace Sys2Proof.Machine

/-- The speed 0 of a timeout, at any time behind it. -/
theorem late_taken (f : Fin 4) (us : Nat) (z : Tach) (s : State) :
    SpeedTaken f z.expired s ((tachExpires f (s.withTach f z)).withTach f (z.expired.run us)) := by
  rw [tachExpires_eq]
  exact (handRpm_taken f z.expired s).withTach rfl

/-- No time passes, and the timeout does not expire. -/
theorem tachPasses_rest {f : Fin 4} {s : State} (h : ∀ τ, (s.fan f).tach.timeout = some τ → τ < 2000000) :
    tachPasses f 0 s = s := by
  rw [tachPasses_quiet (by simpa using h), Tach.run_zero, withTach_self]

theorem prescaledEdge_opens {f : Fin 4} {z : Tach} {s : State} (h : z.periodAge = none) :
    prescaledEdge f (s.withTach f z) = s.withTach f { z with prescaleCount := 0, periodAge := some 0, timeout := some 0 } := by
  simp [prescaledEdge, h, State.withTach_withTach]

theorem prescaledEdge_times {f : Fin 4} {z : Tach} {s : State} {age : Nat} (h : z.periodAge = some age) :
    (z.pulses = 0 → prescaledEdge f (s.withTach f z) = s.withTach f
      { z with prescaleCount := 0, lastPeriod := some age, periodAge := some 0, timeout := some 0 }) ∧
    (z.pulses ≠ 0 → prescaledEdge f (s.withTach f z) = handRpm f (s.withTach f
      { z with
        prescaleCount := 0, lastPeriod := some age, rpm := rpmOf z.prescale z.pulses age, periodAge := some 0
        timeout := some 0 })) := by
  refine ⟨fun hp => ?_, fun hp => ?_⟩ <;> simp [prescaledEdge, h, hp, State.withTach_withTach]

/-! ### The samples of one command (R66) -/

/-- The pin at the level `high`. -/
def Tach.pinned (high : Bool) (t : Tach) : Tach := { t with pin := high }

/-- So many samples of the pin at `high` counted, none of them an edge (R66). -/
def Tach.sampled (high : Bool) (samples : Nat) (t : Tach) : Tach :=
  { t with pin := high, disagreement := if t.level = high then 0 else t.disagreement + samples }

theorem acceptedEdge_noEdge {f : Fin 4} {high : Bool} {samples : Nat} {s : State} (hn : 0 < samples)
    (h : (s.fan f).tach.level = high ∨ (s.fan f).tach.disagreement + samples < (s.fan f).tach.filterN) :
    acceptedEdge f high samples s = tachPasses f (20 * samples) (s.withTach f ((s.fan f).tach.sampled high samples)) := by
  have some_time : samples ≠ 0 := by omega
  unfold acceptedEdge tachTakesSamples
  by_cases hl : (s.fan f).tach.level = high
  · simp [Tach.sampled, hl, some_time, State.withTach_withTach]
  · have few : samples < max 1 ((s.fan f).tach.filterN - (s.fan f).tach.disagreement) := by
      have := h.resolve_left hl
      omega
    have off_level : ¬ high = (s.fan f).tach.level := fun e => hl e.symm
    simp [Tach.sampled, hl, off_level, some_time, few, Tach.samplesToEdge, State.withTach_withTach]

/-- The pin off its accepted level for as long as the filter asks: the edge, and the rest of the samples at the new level. -/
theorem acceptedEdge_edge {f : Fin 4} {high : Bool} {samples : Nat} {s : State} (hl : (s.fan f).tach.level ≠ high)
    (hn : (s.fan f).tach.samplesToEdge ≤ samples) :
    acceptedEdge f high samples s = tachPasses f (20 * (samples - (s.fan f).tach.samplesToEdge))
      (takeEdge f (tachReachesEdge f (20 * (s.fan f).tach.samplesToEdge) (s.withTach f ((s.fan f).tach.pinned high)))) := by
  have off_level : high ≠ (s.fan f).tach.level := fun e => hl e.symm
  have some_time : samples ≠ 0 := by
    unfold Tach.samplesToEdge at hn
    omega
  have all : ¬ samples < (s.fan f).tach.samplesToEdge := by omega
  unfold acceptedEdge tachTakesSamples
  simp only [State.withTach_fan_self]
  rw [if_neg some_time, if_neg off_level]
  exact if_neg all

theorem tachPasses_tach (f : Fin 4) (us : Nat) (s : State) : ((tachPasses f us s).fan f).tach.pin = (s.fan f).tach.pin ∧
    ((tachPasses f us s).fan f).tach.level = (s.fan f).tach.level ∧
    ((tachPasses f us s).fan f).tach.disagreement = (s.fan f).tach.disagreement := by
  unfold tachPasses
  dsimp only
  split
  · rw [State.withTach_fan_self, tachExpires_tach]
    exact ⟨rfl, rfl, rfl⟩
  · rw [State.withTach_fan_self]
    exact ⟨rfl, rfl, rfl⟩

/-- Samples of a pin that stays at its accepted level. -/
theorem acceptedEdge_at_level {f : Fin 4} {n : Nat} {s : State} (hn : n ≠ 0) (hl : (s.fan f).tach.pin = (s.fan f).tach.level)
    (hd : (s.fan f).tach.disagreement = 0) : acceptedEdge f (s.fan f).tach.pin n s = tachPasses f (20 * n) s := by
  have same : s.withTach f { (s.fan f).tach with pin := (s.fan f).tach.pin } = s := withTach_self f s
  have still : s.withTach f { (s.fan f).tach with disagreement := 0 } = s := by
    rw [← hd]
    exact withTach_self f s
  unfold acceptedEdge
  rw [same, tachTakesSamples_at_level hn hl, still]

/-- The samples behind the edge are samples at the accepted level. -/
theorem acceptedEdge_splits {f : Fin 4} {high : Bool} {samples : Nat} {s : State} (hl : (s.fan f).tach.level ≠ high)
    (hn : (s.fan f).tach.samplesToEdge ≤ samples) : acceptedEdge f high samples s =
      acceptedEdge f high (samples - (s.fan f).tach.samplesToEdge) (acceptedEdge f high (s.fan f).tach.samplesToEdge s) := by
  have whole := acceptedEdge_edge hl hn
  have edge := acceptedEdge_edge hl (Nat.le_refl _)
  obtain ⟨pin, level, count⟩ := takeEdge_tach f
    (tachReachesEdge f (20 * (s.fan f).tach.samplesToEdge) (s.withTach f ((s.fan f).tach.pinned high)))
  have high_pin : ((tachReachesEdge f (20 * (s.fan f).tach.samplesToEdge)
      (s.withTach f ((s.fan f).tach.pinned high))).fan f).tach.pin = high := by
    unfold tachReachesEdge
    dsimp only
    split
    · rw [State.withTach_fan_self, tachExpires_tach, State.withTach_fan_self]
      rfl
    · rw [State.withTach_fan_self, State.withTach_fan_self]
      rfl
  rw [high_pin] at pin level
  rw [Nat.sub_self, Nat.mul_zero] at edge
  rw [whole, edge]
  generalize takeEdge f _ = e at pin level count
  obtain ⟨pin', level', count'⟩ := tachPasses_tach f 0 e
  rw [pin] at pin'
  rw [level] at level'
  rw [count] at count'
  by_cases hk : samples - (s.fan f).tach.samplesToEdge = 0
  · rw [hk]
    unfold acceptedEdge
    rw [tachTakesSamples_zero, ← pin']
    exact (withTach_self ..).symm
  · have rest := acceptedEdge_at_level hk (pin'.trans level'.symm) count'
    rw [pin', tachPasses_zero] at rest
    exact rest.symm

/-- The tach input as it meets the edge, `us` µs on. -/
def Tach.reaching (high : Bool) (us : Nat) (t : Tach) : Tach := (t.pinned high).run us

/-- The edge met by a timeout that has not expired. -/
theorem reaches_quiet {f : Fin 4} {high : Bool} {us : Nat} {s : State}
    (h : ∀ τ, (s.fan f).tach.timeout = some τ → τ + us ≤ 2000000) :
    tachReachesEdge f us (s.withTach f ((s.fan f).tach.pinned high)) = s.withTach f ((s.fan f).tach.reaching high us) := by
  rw [tachReachesEdge_quiet (by rw [State.withTach_fan_self]; exact h), State.withTach_fan_self, State.withTach_withTach]
  rfl

/-- The edge met behind the timeout. -/
theorem reaches_late {f : Fin 4} {high : Bool} {us τ : Nat} {s : State} (h : (s.fan f).tach.timeout = some τ)
    (hτ : 2000000 < τ + us) : tachReachesEdge f us (s.withTach f ((s.fan f).tach.pinned high)) =
      (handRpm f (s.withTach f ((s.fan f).tach.pinned high).expired)).withTach f ((s.fan f).tach.pinned high).expired := by
  have met := tachReachesEdge_late (f := f) (us := us) (s := s.withTach f ((s.fan f).tach.pinned high))
    (by rw [State.withTach_fan_self]; exact h) hτ
  rw [tachExpires_eq, State.withTach_fan_self] at met
  exact met

/-- A timeout that expires at the instant of the edge, behind it. -/
theorem passes_expired {f : Fin 4} {z : Tach} {s : State} (h : z.timeout = some 2000000) :
    SpeedTaken f z.expired s (tachPasses f 0 (s.withTach f z)) := by
  rw [tachPasses_late (by rw [State.withTach_fan_self]; exact h) (Nat.le_refl _), State.withTach_fan_self]
  exact late_taken f 0 z s

/-- What the tach input has measured where an edge comes no earlier than its timeout: a speed of 0. -/
theorem lateEdge_counts {f : Fin 4} {high : Bool} {us τ : Nat} {s : State} (h : (s.fan f).tach.timeout = some τ)
    (hτ : 2000000 ≤ τ + us) (hc : (s.fan f).tach.Current (s.fanCfg f)) (hf : ¬ ((s.fan f).tach.pinned high).Fills) :
    SpeedTaken f { ((s.fan f).tach.pinned high).expired.edged with
        prescaleCount := if high then (s.fan f).tach.prescaleCount + 1 else (s.fan f).tach.prescaleCount } s
      (tachPasses f 0 (takeEdge f (tachReachesEdge f us (s.withTach f ((s.fan f).tach.pinned high))))) := by
  obtain hlt | heq := hτ.lt_or_eq
  · have first := handRpm_taken f ((s.fan f).tach.pinned high).expired s
    rw [reaches_late h hlt, takeEdge_counts (z := ((s.fan f).tach.pinned high).expired) (by rw [first.frame.fanCfg]; exact hc) hf,
      tachPasses_rest (by rw [State.withTach_fan_self]; nofun)]
    exact first.withTach rfl
  · have met : ((s.fan f).tach.reaching high us).timeout = some 2000000 := by
      rw [heq]
      exact congrArg (Option.map (· + us)) h
    rw [reaches_quiet fun σ k => by rw [h] at k; cases k; exact heq.ge,
      takeEdge_counts (z := (s.fan f).tach.reaching high us) hc hf]
    exact passes_expired (z := { ((s.fan f).tach.reaching high us).edged with
      prescaleCount := if high then (s.fan f).tach.prescaleCount + 1 else (s.fan f).tach.prescaleCount }) met

theorem lateEdge_fills {f : Fin 4} {high : Bool} {us τ : Nat} {s : State} (h : (s.fan f).tach.timeout = some τ)
    (hc : (s.fan f).tach.Current (s.fanCfg f)) (hf : ((s.fan f).tach.pinned high).Fills) (hτ : 2000000 < τ + us) :
    SpeedTaken f { ((s.fan f).tach.pinned high).expired.edged with
        prescaleCount := 0, periodAge := some 0, timeout := some 0 } s
      (tachPasses f 0 (takeEdge f (tachReachesEdge f us (s.withTach f ((s.fan f).tach.pinned high))))) := by
  have first := handRpm_taken f ((s.fan f).tach.pinned high).expired s
  rw [reaches_late h hτ, takeEdge_fills (z := ((s.fan f).tach.pinned high).expired) (by rw [first.frame.fanCfg]; exact hc) hf,
    prescaledEdge_opens rfl, tachPasses_rest (by rw [State.withTach_fan_self]; rintro _ ⟨⟩; decide)]
  exact first.withTach rfl

theorem lateEdge_settings {f : Fin 4} {high : Bool} {us τ : Nat} {s : State} (h : (s.fan f).tach.timeout = some τ)
    (hτ : 2000000 ≤ τ + us) (hc : ¬ (s.fan f).tach.Current (s.fanCfg f)) :
    SpeedTaken f (((s.fan f).tach.pinned high).edged.under (s.fanCfg f)).expired s
      (tachPasses f 0 (takeEdge f (tachReachesEdge f us (s.withTach f ((s.fan f).tach.pinned high))))) := by
  obtain hlt | heq := hτ.lt_or_eq
  · have first := handRpm_taken f ((s.fan f).tach.pinned high).expired s
    have again := handRpm_again (f := f) (y := ((s.fan f).tach.pinned high).expired)
      (z := (((s.fan f).tach.pinned high).edged.under (s.fanCfg f)).expired) (s := s) rfl
    have cfg := first.frame.fanCfg f
    rw [reaches_late h hlt]
    generalize handRpm f (s.withTach f ((s.fan f).tach.pinned high).expired) = u at first again cfg
    obtain ⟨silent, handing⟩ := takeEdge_settings (s := u) (f := f) (z := ((s.fan f).tach.pinned high).expired)
      (by rw [cfg]; exact hc)
    rw [cfg] at silent handing
    by_cases hp : (s.fan f).tach.pulses ≠ 0 ∧ (s.fanCfg f).pulsesPerRev = 0
    · rw [handing hp, tachPasses_rest (by rw [handRpm_tach, State.withTach_fan_self]; nofun)]
      exact again
    · rw [silent hp, tachPasses_rest (by rw [State.withTach_fan_self]; nofun)]
      exact first.withTach rfl
  · have met : ((s.fan f).tach.reaching high us).timeout = some 2000000 := by
      rw [heq]
      exact congrArg (Option.map (· + us)) h
    obtain ⟨silent, handing⟩ := takeEdge_settings (s := s) (f := f) (z := (s.fan f).tach.reaching high us) hc
    rw [reaches_quiet fun σ k => by rw [h] at k; cases k; exact heq.ge]
    by_cases hp : (s.fan f).tach.pulses ≠ 0 ∧ (s.fanCfg f).pulsesPerRev = 0
    · rw [handing hp]
      generalize hz : ({ ((s.fan f).tach.reaching high us).edged.under (s.fanCfg f) with rpm := 0, lastPeriod := none } : Tach) = z
      have timeout : z.timeout = some 2000000 := by rw [← hz]; exact met
      have expired : z.expired = (((s.fan f).tach.pinned high).edged.under (s.fanCfg f)).expired := by rw [← hz]; rfl
      have zero : z.expired.rpm = z.rpm := by rw [← hz]; rfl
      rw [tachPasses_late (by rw [handRpm_tach, State.withTach_fan_self]; exact timeout) (Nat.le_refl _), ← expired,
        show tachExpires f _ = handRpm f (State.withTach _ f (State.fan _ f).tach.expired) from rfl, handRpm_tach,
        State.withTach_fan_self]
      exact (handRpm_again zero).withTach rfl
    · rw [silent hp]
      exact passes_expired (z := ((s.fan f).tach.reaching high us).edged.under (s.fanCfg f)) met

/-- Settles O23. -/
theorem tachInputMeasuresTheSpeed : Obligations.TachInputMeasuresTheSpeed := by
  refine ⟨fun s f high samples => ?_, fun s f high => ?_, fun s f => ?_⟩
  · intro x y us z hn hl
    have passes : acceptedEdge f high samples s = tachPasses f us (s.withTach f (y.sampled high samples)) :=
      acceptedEdge_noEdge hn hl
    refine ⟨fun h => congrArg Host.Outcome.next ?_, fun τ h hτ => ⟨acceptedEdge f high samples s, rfl, ?_⟩⟩
    · rw [passes, tachPasses_quiet (by rw [State.withTach_fan_self]; exact h), State.withTach_fan_self,
        State.withTach_withTach]
      rfl
    · rw [passes, tachPasses_late (by rw [State.withTach_fan_self]; exact h) hτ, State.withTach_fan_self]
      exact late_taken f us (y.sampled high samples) s
  · intro x y p need us same fills count z late taken hl
    have edge : acceptedEdge f high need s = tachPasses f 0 (takeEdge f (tachReachesEdge f us (s.withTach f (y.pinned high)))) := by
      have := acceptedEdge_edge (f := f) (s := s) hl (Nat.le_refl _)
      rwa [Nat.sub_self, Nat.mul_zero] at this
    have quiet (h : ∀ τ, y.timeout = some τ → τ + us ≤ 2000000) :
        acceptedEdge f high need s = tachPasses f 0 (takeEdge f (s.withTach f (y.reaching high us))) := by
      rw [edge, reaches_quiet h]
    have runs (h : ∀ τ, y.timeout = some τ → τ + us < 2000000) :
        ∀ τ, (y.reaching high us).timeout = some τ → τ < 2000000 := fun τ k => by
      obtain ⟨σ, hσ, rfl⟩ := Option.map_eq_some_iff.mp k
      exact h σ hσ
    refine ⟨fun h => ⟨acceptedEdge f high need s, rfl, fun hs hp => ?_, fun hs hp hz => ?_, fun hs hf => ?_⟩,
      fun h hs hf => ⟨acceptedEdge f high need s, rfl, fun ha => ?_, fun age ha => ⟨fun hp => ?_, fun hp => ?_⟩⟩,
      fun τ h hτ => ⟨acceptedEdge f high need s, rfl, ?_⟩, fun samples t hn ht => ?_⟩
    · have timeout := runs h
      rw [quiet fun τ k => (h τ k).le, (takeEdge_settings (z := y.reaching high us) hs).1 hp,
        tachPasses_rest (by rw [State.withTach_fan_self]; exact timeout)]
      rfl
    · have timeout := runs h
      have taken := handRpm_taken f { (y.reaching high us).edged.under (s.fanCfg f) with rpm := 0, lastPeriod := none } s
      rw [quiet fun τ k => (h τ k).le, (takeEdge_settings (z := y.reaching high us) hs).2 ⟨hp, hz⟩,
        tachPasses_rest (by rw [taken.tach]; exact timeout)]
      exact taken
    · have timeout := runs h
      rw [quiet fun τ k => (h τ k).le, takeEdge_counts (z := y.reaching high us) hs hf,
        tachPasses_rest (by rw [State.withTach_fan_self]; exact timeout)]
      rfl
    · rw [quiet h, takeEdge_fills (z := y.reaching high us) hs hf,
        prescaledEdge_opens (z := (y.reaching high us).edged) (congrArg (Option.map (· + us)) ha), tachPasses_rest (by rw [State.withTach_fan_self]; rintro _ ⟨⟩; decide)]
      rfl
    · rw [quiet h, takeEdge_fills (z := y.reaching high us) hs hf,
        (prescaledEdge_times (z := (y.reaching high us).edged) (age := age + us) (congrArg (Option.map (· + us)) ha)).1 hp,
        tachPasses_rest (by rw [State.withTach_fan_self]; rintro _ ⟨⟩; decide)]
      rfl
    · have timed := handRpm_taken f { (y.reaching high us).edged with
        prescaleCount := 0, lastPeriod := some (age + us), rpm := rpmOf y.prescale y.pulses (age + us), periodAge := some 0
        timeout := some 0 } s
      have fills_at := (prescaledEdge_times (f := f) (s := s) (z := (y.reaching high us).edged) (age := age + us)
        (congrArg (Option.map (· + us)) ha)).2 hp
      rw [quiet h, takeEdge_fills (z := y.reaching high us) hs hf, fills_at, tachPasses_rest (by
        rw [handRpm_tach, State.withTach_fan_self]
        rintro _ ⟨⟩
        decide)]
      exact timed
    · rw [edge]
      exact ⟨lateEdge_counts h hτ, lateEdge_fills h, lateEdge_settings h hτ⟩
    · cases ht
      exact congrArg Host.Outcome.next (acceptedEdge_splits hl hn)
  · intro y
    refine ⟨fun h => congrArg Host.Outcome.next (if_neg (by rw [h]; nofun)), fun h => ⟨tachTimeout f s, rfl, ?_⟩⟩
    rw [tachTimeout, if_pos (Option.isSome_iff_ne_none.mpr h)]
    exact handRpm_taken f y.expired s

end Sys2Proof.Machine
end

section
/-! A door whose motor starts: what it keeps, and the tests at its start (R94, R97, R99). -/

namespace Sys2Proof.Machine

/-! ### What a door keeps while it begins to move -/

/-- `y` stands where `x` stood, with the same inputs, escape requests, retries and policy. -/
structure AsBefore (x y : Door) : Prop where
  position : y.position = x.position := by rfl
  homed : y.homed = x.homed := by rfl
  escape : y.escape = x.escape := by rfl
  retry : y.retry = x.retry := by rfl
  unlockPolicy : y.unlockPolicy = x.unlockPolicy := by rfl
  inputs : y.inputs = x.inputs := by rfl

theorem AsBefore.refl (x : Door) : AsBefore x x := {}

theorem AsBefore.trans {x y z : Door} (a : AsBefore x y) (b : AsBefore y z) : AsBefore x z where
  position := b.position.trans a.position
  homed := b.homed.trans a.homed
  escape := b.escape.trans a.escape
  retry := b.retry.trans a.retry
  unlockPolicy := b.unlockPolicy.trans a.unlockPolicy
  inputs := b.inputs.trans a.inputs

/-- A door written in another item is as before. -/
theorem AsBefore.door {d : Fin 2} {x y : Door} {s : State} (h : AsBefore x (s.door d)) (k : AsBefore (s.door d) y) :
    AsBefore x ((s.withDoor d y).door d) := by
  rw [State.withDoor_door_self]
  exact h.trans k

/-! ### The motor starts (R94, R97) -/

/-- The state of a door whose motor runs in a direction. -/
def motorState : DoorDir → DoorState
  | .toOpen => .opening
  | .toClose => .closing

/-- The door that enters OPENING or CLOSING with its motor (R94, R97). -/
def Door.moving (cfg : DoorSettings) (dir : DoorDir) (x : Door) : Door :=
  let y := { x with travelTimer := some 0 }.entered cfg (motorState dir)
  { y with creep := y.creepWanted cfg }

theorem runMotor_door (d : Fin 2) (dir : DoorDir) (s : State) :
    (runMotor d dir s).door d = (s.door d).moving (s.doorCfg d) dir := by
  have same : (enterDoor d (motorState dir) (s.withDoor d { s.door d with travelTimer := some 0 })).doorCfg d = s.doorCfg d := by
    simp only [State.doorCfg, (enterDoor_oneDoor d (motorState dir) _).frame.store]
    rfl
  cases dir
  all_goals
    simp only [motorState] at same
    simp [runMotor, updateCreep, Door.moving, motorState, same]

/-- A travelling door keeps its sources and its retries at its entry into a state (R105, R108). -/
theorem Door.entered_asBefore {cfg : DoorSettings} {st : DoorState} {x : Door} (h : travelling st = true) :
    AsBefore x (x.entered cfg st) := by
  match st, h with
  | .unlocking, _ | .opening, _ | .closing, _ | .relieving, _ => exact ⟨rfl, rfl, rfl, rfl, rfl, rfl⟩

theorem Door.moving_asBefore (cfg : DoorSettings) (dir : DoorDir) (x : Door) : AsBefore x (x.moving cfg dir) := by
  cases dir
  all_goals exact {}

theorem Door.moving_creep {cfg : DoorSettings} {dir : DoorDir} {x : Door} {t : Travel} (ht : x.travel = some t) :
    (x.moving cfg dir).creep = (!x.homed || t.target.any fun p => near x.position p cfg.creepZone) := by
  cases dir
  all_goals
    simp [Door.moving, Door.creepWanted, Door.entered, Door.startHold, Door.dropReopen, ht, motorState, Door.motorOpen,
      Door.motorClose]

/-- A door whose motor has started on its current travel has begun to move. -/
theorem Door.moving_movesOn {cfg : DoorSettings} {x y : Door} {t : Travel} (h : AsBefore x y) (ht : y.travel = some t) :
    MovesOn cfg x (y.moving cfg t.dir) t := by
  obtain ⟨position, homed, escape, retry, unlockPolicy, inputs⟩ := h.trans (Door.moving_asBefore cfg t.dir y)
  have creep := Door.moving_creep (cfg := cfg) (dir := t.dir) ht
  rw [h.homed, h.position] at creep
  have timer : (y.moving cfg t.dir).travelTimer = some 0 ∧ (y.moving cfg t.dir).settle = none ∧
      (y.moving cfg t.dir).holdOpen = none ∧ (y.moving cfg t.dir).reliefTimer = none ∧
      (y.moving cfg t.dir).reliefChannel = none := by
    cases t.dir <;> exact ⟨rfl, rfl, rfl, rfl, rfl⟩
  refine ⟨?_, ht, timer.1, timer.2, creep, position, homed, escape, retry, unlockPolicy, inputs⟩
  cases t.dir <;> rfl

/-! ### The tests at the start (R99) -/

/-- No condition of R99 ends a travel at its start, in its direction. -/
def ClearTo (cfg : DoorSettings) (x : Door) (t : Travel) : Prop :=
  (t.dir = .toOpen → ClearToOpen cfg x t) ∧ (t.dir = .toClose → ClearToClose cfg x t)

theorem ClearTo.of_opens {cfg : DoorSettings} {x : Door} {t : Travel} (hd : t.dir = .toOpen) (h : ClearToOpen cfg x t) :
    ClearTo cfg x t := ⟨fun _ => h, fun hc => absurd (hd.symm.trans hc) nofun⟩

theorem ClearTo.of_closes {cfg : DoorSettings} {x : Door} {t : Travel} (hd : t.dir = .toClose) (h : ClearToClose cfg x t) :
    ClearTo cfg x t := ⟨fun hc => absurd (hd.symm.trans hc) nofun, fun _ => h⟩

/-- The door has the target of a travel behind it, in the direction of the travel (R99). -/
def Behind (cfg : DoorSettings) (x : Door) (t : Travel) (p : Int) : Prop :=
  (t.dir = .toOpen → p - cfg.tolerance ≤ x.position) ∧ (t.dir = .toClose → x.position ≤ p + cfg.tolerance)

theorem Door.targetReached_iff {cfg : DoorSettings} {x : Door} {t : Travel} :
    x.targetReached cfg t = true ↔ x.homed = true ∧ ¬ (t.reason = .homing ∧ t.dir = .toClose) ∧
      ∃ p, t.target = some p ∧ Behind cfg x t p := by
  simp only [Door.targetReached, Door.testsTarget, Behind, Bool.and_eq_true, Option.any_eq_true, and_assoc]
  refine and_congr_right fun _ => and_congr (by simp [imp_iff_not_or]) (exists_congr fun p => and_congr_right fun _ => ?_)
  cases t.dir <;> simp

/-- At the start of a travel none of the conditions of R99 holds. -/
theorem MovesOn.termination {cfg : DoorSettings} {x y : Door} {t : Travel} (h : MovesOn cfg x y t) (hc : ClearTo cfg x t)
    (edge : Bool) : y.termination cfg edge = none := by
  obtain ⟨position, homed, _, _, _, inputs⟩ := h.kept
  have hs := h.state
  have missed : y.targetReached cfg t = false := by
    rw [← Bool.not_eq_true, Door.targetReached_iff]
    rintro ⟨hh, _, p, hp, opens, closes⟩
    rw [homed] at hh
    rw [position] at opens closes
    cases hd : t.dir
    · exact absurd (opens hd) (not_le.mpr ((hc.1 hd).2.2.2.1 hh p hp))
    · exact absurd (closes hd) (not_le.mpr ((hc.2 hd).2.2.2.1 hh p hp))
  cases hd : t.dir
  · obtain ⟨stop, safety, limit, _, button⟩ := hc.1 hd
    have long : ¬ cfg.travelLimit * 1000 ≤ 0 := Nat.not_le.mpr (Nat.mul_pos limit (by decide))
    simp only [hd] at hs
    simpa [Door.termination, h.travel, endStopOf, hd, inputs, stop, safety, missed, h.timer, travelling, hs, serviceButton, long]
      using button
  · obtain ⟨stop, safety, limit, _, button⟩ := hc.2 hd
    have long : ¬ cfg.travelLimit * 1000 ≤ 0 := Nat.not_le.mpr (Nat.mul_pos limit (by decide))
    simp only [hd] at hs
    simpa [Door.termination, h.travel, endStopOf, hd, inputs, stop, safety, missed, h.timer, travelling, hs, serviceButton, long]
      using button

/-- Tests that find no condition leave a door that is not at rest alone. -/
theorem testsFor_goesOn {n : Nat} {edge obstructed : Bool} {d : Fin 2} {s : State}
    (h : (s.door d).termination (s.doorCfg d) edge = none)
    (hs : obstructed = true → (s.door d).state ≠ .halted ∧ (s.door d).state ≠ .unhomed) :
    testsFor (n + 1) edge obstructed d s = s := by
  simp only [testsFor, h, startReopen]
  rw [if_neg]
  rintro ⟨ho, _, hr⟩
  exact hr.elim (hs ho).1 (hs ho).2

/-- The motor of a door with a current travel starts, and the tests find no condition. -/
theorem runMotor_tested {d : Fin 2} {x : Door} {t : Travel} {u : State} (h : AsBefore x (u.door d))
    (ht : (u.door d).travel = some t) (hc : ClearTo (u.doorCfg d) x t) (n : Nat) (edge obstructed : Bool) :
    testsFor (n + 1) edge obstructed d (runMotor d t.dir u) = runMotor d t.dir u ∧
      MovesOn (u.doorCfg d) x ((runMotor d t.dir u).door d) t := by
  have moves : MovesOn (u.doorCfg d) x ((runMotor d t.dir u).door d) t := by
    rw [runMotor_door]
    exact Door.moving_movesOn h ht
  have cfg : (runMotor d t.dir u).doorCfg d = u.doorCfg d := by
    simp only [State.doorCfg, (runMotor_oneDoor d t.dir u).frame.store]
  refine ⟨testsFor_goesOn (cfg ▸ moves.termination hc edge) fun _ => ?_, moves⟩
  obtain k | k := runMotor_state d t.dir u <;> rw [k] <;> exact ⟨nofun, nofun⟩

end Sys2Proof.Machine
end

section
/-! The pressure check of an opening, and the ends of relief (R119, R120, R123, R124, R127). -/

namespace Sys2Proof.Machine

/-! ### The pressure channel (R20, R119) -/

theorem usable_iff {ch : Channel} : ch.usable = true ↔ Usable ch := by
  simp [Channel.usable, Usable, Option.isSome_iff_ne_none]

theorem passes_iff {ch : Channel} {limit : Nat} : (ch.usable && ch.atMost limit) = true ↔ Passes ch limit := by
  rw [Bool.and_eq_true, usable_iff, Passes]
  refine and_congr_right fun h => ?_
  obtain ⟨a, ha⟩ := Option.ne_none_iff_exists'.mp h.2
  simp [Channel.atMost, ha]

/-! ### The end of relief (R124) -/

/-- The travel of a door whose relief ends. -/
def relieved (o : ReliefOutcome) (r : Travel) : Travel := { r with forced := r.forced || o == .timeout }

theorem relieved_blind (r : Travel) : relieved .blind r = r := by
  simp [relieved, show (ReliefOutcome.blind == ReliefOutcome.timeout) = false from rfl]

theorem relieved_timeout (r : Travel) : relieved .timeout r = { r with forced := true } := by
  simp [relieved]

/-- The door whose relief ends, reported, before its motor starts. -/
def reliefReported (d : Fin 2) (o : ReliefOutcome) (s : State) : State :=
  report (doorUnit d) (.relief o ((s.door d).reliefTimer.getD 0 / 100) (if o = .blind then none else (s.door d).lastObserved))
    (s.withDoor d { s.door d with travel := (s.door d).travel.map (relieved o) })

theorem endRelief_eq (d : Fin 2) (o : ReliefOutcome) (s : State) : endRelief d o s = runMotor d .toOpen (reliefReported d o s) :=
  rfl

/-- The RELIEF report stands in front of what the end of relief brings (R124). -/
theorem endRelief_reported (d : Fin 2) (o : ReliefOutcome) (s : State) (n : Nat) (edge obstructed : Bool) :
    FirstReport s (testsFor n edge obstructed d (endRelief d o s)) (doorUnit d)
      (.relief o ((s.door d).reliefTimer.getD 0 / 100) (if o = .blind then none else (s.door d).lastObserved)) :=
  ((runMotor_oneDoor d .toOpen (reliefReported d o s)).trans (testsFor_oneDoor n edge obstructed d _)).frame.queued

/-- The opening goes on at the end of its relief. -/
theorem endRelief_moves {d : Fin 2} {o : ReliefOutcome} {x : Door} {r : Travel} {s : State} (h : AsBefore x (s.door d))
    (ht : (s.door d).travel = some r) (hd : r.dir = .toOpen) (hc : ClearToOpen (s.doorCfg d) x r) (n : Nat)
    (edge obstructed : Bool) :
    MovesOn (s.doorCfg d) x ((testsFor (n + 1) edge obstructed d (endRelief d o s)).door d) (relieved o r) := by
  have moves := runMotor_tested (d := d) (x := x) (t := relieved o r) (u := reliefReported d o s)
    (by simpa [reliefReported] using h.trans {}) (by simp [reliefReported, ht]) (.of_opens hd hc) n edge obstructed
  rw [show (relieved o r).dir = .toOpen from hd] at moves
  rw [endRelief_eq, moves.1]
  exact moves.2

/-! ### RELIEVING (R120, R127) -/

/-- A door that enters a state while neither was RELIEVING leaves the pressurisation fan under the relief cap (R127). -/
theorem enterDoor_capped {d : Fin 2} {st : DoorState} {s : State} (h : someDoorRelieving s = false) :
    CapOk (enterDoor d st s) := by
  let u := evaluateUrgency (s.withDoor d ((s.door d).entered (s.doorCfg d) st))
  have takes := fanTakesDoorChange_takes (someDoorRelieving s) u
  exact (serve_mild (fanTakesDoorChange (someDoorRelieving s) u)).capOk
    (fun f hp => takes.pressed f (by rwa [takes.frame.ctl] at hp)) (takes.cap fun _ _ hr => by simp [h] at hr)

/-- The door about to enter RELIEVING on channel `c`. -/
def relievingOn (d : Fin 2) (c : Fin 8) (s : State) : State :=
  s.withDoor d { s.door d with
    reliefChannel := some c, reliefTimer := some 0, lastObserved := (s.channel c).average
    observedUsable := (s.channel c).usable }

theorem relievingOn_asBefore (d : Fin 2) (c : Fin 8) (s : State) : AsBefore (s.door d) ((relievingOn d c s).door d) :=
  .door (.refl _) {}

theorem enterRelieving_eq (d : Fin 2) (c : Fin 8) (s : State) : enterRelieving d c s =
    if (s.channel c).usable = false ∧ (s.doorCfg d).blindTime = 0 then
      endRelief d .blind (enterDoor d .relieving (relievingOn d c s))
    else enterDoor d .relieving (relievingOn d c s) := by
  have cfg : (enterDoor d .relieving (relievingOn d c s)).doorCfg d = s.doorCfg d := by
    simp only [State.doorCfg, (enterDoor_oneDoor d .relieving (relievingOn d c s)).frame.store]
    rfl
  have eq : enterRelieving d c s =
      if !(s.channel c).usable && ((enterDoor d .relieving (relievingOn d c s)).doorCfg d).blindTime == 0 then
        endRelief d .blind (enterDoor d .relieving (relievingOn d c s))
      else enterDoor d .relieving (relievingOn d c s) := rfl
  rw [eq, cfg]
  simp

/-- A RELIEVING door whose service button is held, where its travel asks for it, goes on relieving. -/
theorem relieving_tested {d : Fin 2} {s : State} {r : Travel} {n : Nat} {edge obstructed : Bool}
    (hs : (s.door d).state = .relieving) (ht : (s.door d).travel = some r) (hd : r.dir = .toOpen)
    (hb : r.mode = .hold → (s.door d).inputs.serviceOpen = true) : testsFor (n + 1) edge obstructed d s = s := by
  refine testsFor_goesOn ?_ fun _ => by rw [hs]; exact ⟨nofun, nofun⟩
  simpa [Door.termination, ht, hs, Door.motorOpen, Door.motorClose, travelling, hd, serviceButton] using hb

/-- The door that has just entered RELIEVING. -/
theorem enterRelieving_door (d : Fin 2) (c : Fin 8) (s : State) :
    let y := (enterDoor d .relieving (relievingOn d c s)).door d
    AsBefore (s.door d) y ∧ y.state = .relieving ∧ y.travel = (s.door d).travel ∧ y.reliefChannel = some c ∧
      y.reliefTimer = some 0 ∧ y.lastObserved = (s.channel c).average ∧ y.settle = none := by
  simp only [enterDoor_door]
  exact ⟨(relievingOn_asBefore d c s).trans (Door.entered_asBefore rfl), rfl, by simp [relievingOn],
    by simp [relievingOn, Door.entered, Door.startHold, Door.dropReopen],
    by simp [relievingOn, Door.entered, Door.startHold, Door.dropReopen],
    by simp [relievingOn, Door.entered, Door.startHold, Door.dropReopen], rfl⟩

/-! ### The pressure check (R119) -/

/-- An event in `s` reaches the pressure check of door `d` in `u`, where the door still stands as `x` and has begun its opening. -/
structure ReachesCheck (d : Fin 2) (x : Door) (r : Travel) (s u : State) : Prop where
  frame : DoorFrame s u
  before : AsBefore x (u.door d)
  travel : (u.door d).travel = some r
  opens : r.dir = .toOpen
  relieving : someDoorRelieving s = false → someDoorRelieving u = false

theorem pressureCheck_passes {d : Fin 2} {s : State} (h : (s.doorCfg d).pressureChannel = none ∨
    ∃ c, (s.doorCfg d).pressureChannel = some c ∧ Passes (s.channel c) (s.doorCfg d).pressureLimit) :
    pressureCheck d s = runMotor d .toOpen s := by
  obtain hp | ⟨c, hp, passes⟩ := h
  · simp only [pressureCheck, hp]
  · simp only [pressureCheck, hp, passes_iff.mpr passes, if_true]

theorem pressureCheck_fails {d : Fin 2} {c : Fin 8} {s : State} (h : (s.doorCfg d).pressureChannel = some c)
    (hn : ¬ Passes (s.channel c) (s.doorCfg d).pressureLimit) : pressureCheck d s = enterRelieving d c s := by
  simp only [pressureCheck, h, if_neg (mt passes_iff.mp hn)]

theorem ReachesCheck.cfg {d : Fin 2} {x : Door} {r : Travel} {s u : State} (h : ReachesCheck d x r s u) (e : Fin 2) :
    u.doorCfg e = s.doorCfg e := by simp only [State.doorCfg, h.frame.store]

theorem ReachesCheck.channel {d : Fin 2} {x : Door} {r : Travel} {s u : State} (h : ReachesCheck d x r s u) (c : Fin 8) :
    u.channel c = s.channel c := by simp only [State.channel, h.frame.channels]

theorem someDoorRelieving_relievingOn (d : Fin 2) (c : Fin 8) (s : State) :
    someDoorRelieving (relievingOn d c s) = someDoorRelieving s := someDoorRelieving_congr fun e => by
  by_cases he : e = d
  · subst he; simp [relievingOn]
  · simp [relievingOn, s.withDoor_door_of_ne _ he]

/-- The door relieves (R120). -/
theorem ReachesCheck.relieves {d : Fin 2} {x : Door} {r : Travel} {s u : State} (h : ReachesCheck d x r s u) {c : Fin 8}
    (hp : (s.doorCfg d).pressureChannel = some c) (hn : ¬ Passes (s.channel c) (s.doorCfg d).pressureLimit)
    (hu : Usable (s.channel c) ∨ (s.doorCfg d).blindTime ≠ 0) (hb : r.mode = .hold → x.inputs.serviceOpen = true) (n : Nat)
    (edge obstructed : Bool) :
    testsFor (n + 1) edge obstructed d (pressureCheck d u) = enterDoor d .relieving (relievingOn d c u) := by
  obtain ⟨before, relieving, travel, _⟩ := enterRelieving_door d c u
  rw [pressureCheck_fails ((h.cfg d).symm ▸ hp) (by rwa [h.channel, h.cfg]), enterRelieving_eq, if_neg]
  · exact relieving_tested relieving (travel.trans h.travel) h.opens fun hm => by
      rw [before.inputs, h.before.inputs]
      exact hb hm
  · rintro ⟨unusable, zero⟩
    rw [h.cfg] at zero
    rw [h.channel] at unusable
    exact hu.elim (fun k => by simp [usable_iff.mpr k] at unusable) fun k => k zero

theorem mem_allDoors (d : Fin 2) : d ∈ allDoors := by revert d; decide

/-- The door that relieves has the pressurisation fan under the cap (R127). -/
theorem ReachesCheck.capped {d : Fin 2} {x : Door} {r : Travel} {s u : State} (h : ReachesCheck d x r s u) (c : Fin 8)
    {f : Fin 4} (hf : s.ctl.pressFan = some f) (hr : someDoorRelieving s = false) :
    ((enterDoor d .relieving (relievingOn d c u)).fan f).reference ≤ (s.fanCfg f).relief * 10 := by
  have store : (enterDoor d .relieving (relievingOn d c u)).store = s.store :=
    (enterDoor_oneDoor d .relieving (relievingOn d c u)).frame.store.trans h.frame.store
  have relieves : someDoorRelieving (enterDoor d .relieving (relievingOn d c u)) = true :=
    List.any_eq_true.mpr ⟨d, mem_allDoors d, by simp⟩
  have capped := enterDoor_capped (d := d) (st := .relieving)
    ((someDoorRelieving_relievingOn d c u).trans (h.relieving hr)) f (by rw [ctl_of_store store]; exact hf) relieves
  rwa [fanCfg_of_store store] at capped

/-- Whatever the pressure check of an opening finds, it does as R119 and R120 say. -/
theorem ReachesCheck.checked {d : Fin 2} {x : Door} {r : Travel} {s u : State} (h : ReachesCheck d x r s u) (n : Nat)
    (edge obstructed : Bool) : PressureChecked d x s (testsFor (n + 1) edge obstructed d (pressureCheck d u)) r where
  opens hp hc := by
    have moves := runMotor_tested h.before h.travel (.of_opens h.opens ((h.cfg d).symm ▸ hc)) n edge obstructed
    rw [h.opens] at moves
    have passes : (u.doorCfg d).pressureChannel = none ∨
        ∃ c, (u.doorCfg d).pressureChannel = some c ∧ Passes (u.channel c) (u.doorCfg d).pressureLimit := by
      simpa only [h.cfg, h.channel] using hp
    rw [pressureCheck_passes passes, moves.1, ← h.cfg]
    exact moves.2
  relieves c hp hn hu hb := by
    obtain ⟨before, relieving, travel, channel, timer, observed, settle⟩ := enterRelieving_door d c u
    rw [h.relieves hp hn hu hb]
    exact ⟨relieving, travel.trans h.travel, channel, timer, observed.trans (by rw [h.channel]), settle,
      before.position.trans h.before.position, before.escape.trans h.before.escape, fun _ => h.capped c⟩
  blind c hp hu hz hc := by
    obtain ⟨before, _, travel, _, timer, _⟩ := enterRelieving_door d c u
    have unusable : (u.channel c).usable = false := by
      rw [h.channel, ← Bool.not_eq_true]
      exact mt usable_iff.mp hu
    have oneDoor := OneDoor.trans (.withDoor d _ u) (enterDoor_oneDoor d .relieving (relievingOn d c u))
    have cfg : (enterDoor d .relieving (relievingOn d c u)).doorCfg d = s.doorCfg d := by
      simp only [State.doorCfg, oneDoor.frame.store, h.frame.store]
    have reported := endRelief_reported d .blind (enterDoor d .relieving (relievingOn d c u)) (n + 1) edge obstructed
    have moves := endRelief_moves (o := .blind) (h.before.trans before) (travel.trans h.travel) h.opens (cfg ▸ hc) n edge obstructed
    rw [pressureCheck_fails ((h.cfg d).symm ▸ hp) (by rw [h.channel]; exact fun k => hu k.1), enterRelieving_eq,
      if_pos ⟨unusable, by rw [h.cfg, hz]⟩]
    rw [timer] at reported
    rw [cfg] at moves
    exact ⟨⟨_, (h.frame.trans oneDoor.frame).queued, reported⟩, relieved_blind r ▸ moves⟩

end Sys2Proof.Machine
end

section
/-! A travel that begins on a door at rest (R96, R97, R110, R119). -/

namespace Sys2Proof.Machine

/-! ### The current travel that a record becomes (R96) -/

@[simp] theorem Door.raised_dir (x : Door) (t : Travel) : (x.raised t).dir = t.dir := by
  unfold Door.raised
  split <;> rfl

@[simp] theorem Door.raised_escapeTravel (x : Door) : x.raised escapeTravel = escapeTravel := by
  unfold Door.raised
  split <;> rfl

theorem Door.makeCurrent_travel (cfg : DoorSettings) (x : Door) (t : Travel) :
    (x.makeCurrent cfg (x.raised t)).travel = some (becomesCurrent cfg x t) := by
  simp only [Door.makeCurrent, Door.raised, becomesCurrent]
  split
  · next h => simp [Door.targetOf, h.1]
  · obtain ⟨dir, mode, given, target, reason, forced⟩ := t
    congr 3
    cases mode <;> cases given <;> cases dir <;> simp [Door.targetOf]

theorem Door.makeCurrent_asBefore (cfg : DoorSettings) (t : Travel) (x : Door) : AsBefore x (x.makeCurrent cfg t) := {}

theorem becomesCurrent_reason (cfg : DoorSettings) (x : Door) (t : Travel) :
    (becomesCurrent cfg x t).reason = (x.raised t).reason := by
  unfold becomesCurrent Door.raised
  split <;> rfl

@[simp] theorem becomesCurrent_dir (cfg : DoorSettings) (x : Door) (t : Travel) : (becomesCurrent cfg x t).dir = t.dir := by
  unfold becomesCurrent
  split <;> rfl

@[simp] theorem becomesCurrent_forced (cfg : DoorSettings) (x : Door) (t : Travel) :
    (becomesCurrent cfg x t).forced = t.forced := by
  unfold becomesCurrent
  split <;> rfl

theorem AsBefore.becomesCurrent {cfg : DoorSettings} {x y : Door} (h : AsBefore x y) (t : Travel) :
    becomesCurrent cfg y t = becomesCurrent cfg x t := by
  simp only [Machine.becomesCurrent, h.escape, h.position]

theorem becomesCurrent_escapeTravel (cfg : DoorSettings) (x : Door) : becomesCurrent cfg x escapeTravel = currentEscape cfg := by
  unfold becomesCurrent
  split <;> rfl

theorem makeCurrent_homing (cfg : DoorSettings) (x : Door) :
    (x.makeCurrent cfg homingTravel).travel = some currentHoming := rfl

/-! ### How a travel begins, by the state of its door (R97) -/

theorem beginTravel_homes {d : Fin 2} {t : Travel} {s : State} (h : (s.door d).state = .unhomed)
    (hr : (becomesCurrent (s.doorCfg d) (s.door d) t).reason ≠ .escape) :
    beginTravel d t s = runMotor d .toClose (setCurrent d homingTravel (placeInSlot d t s)) := by
  rw [becomesCurrent_reason] at hr
  simp only [beginTravel, if_pos (And.intro h hr)]

theorem beginTravel_unlocks {d : Fin 2} {t : Travel} {s : State} (h : (s.door d).state = .closedLocked) :
    beginTravel d t s = enterDoor d .unlocking ((setCurrent d ((s.door d).raised t) s).withDoor d
      { (setCurrent d ((s.door d).raised t) s).door d with settle := some 0 }) := by
  simp [beginTravel, h]

theorem checksPressure_iff {cfg : DoorSettings} {x : Door} {dir : DoorDir} :
    checksPressure cfg x dir = true ↔
      dir = .toOpen ∧ (x.state = .closed ∨ (x.state = .halted ∧ x.atZero cfg = true)) := by
  simp [checksPressure]

theorem beginTravel_checks {d : Fin 2} {t : Travel} {s : State} (h : checksPressure (s.doorCfg d) (s.door d) t.dir = true) :
    beginTravel d t s = pressureCheck d (setCurrent d ((s.door d).raised t) s) := by
  have cfg : (setCurrent d ((s.door d).raised t) s).doorCfg d = s.doorCfg d := rfl
  obtain ⟨_, hs | ⟨hs, _⟩⟩ := checksPressure_iff.mp h <;> simp [beginTravel, hs, cfg, h]

/-- The door is in a state from which the motor starts at once (R97). -/
structure StartsAtOnce (cfg : DoorSettings) (x : Door) (t : Travel) : Prop where
  unlocked : x.state ≠ .closedLocked
  homed : x.state = .unhomed → (becomesCurrent cfg x t).reason = .escape
  unchecked : checksPressure cfg x t.dir = false

theorem beginTravel_runs {d : Fin 2} {t : Travel} {s : State} (h : StartsAtOnce (s.doorCfg d) (s.door d) t) :
    beginTravel d t s = runMotor d t.dir (setCurrent d ((s.door d).raised t) s) := by
  have homed : ¬ ((s.door d).state = .unhomed ∧ ((s.door d).raised t).reason ≠ .escape) := by
    rw [← becomesCurrent_reason (s.doorCfg d)]
    exact fun k => k.2 (h.homed k.1)
  have cfg : (setCurrent d ((s.door d).raised t) s).doorCfg d = s.doorCfg d := rfl
  simp [beginTravel, homed, h.unlocked, cfg, h.unchecked]

/-! ### The door that stands as another one -/

/-- `y` stands where `x` stood, in the same state. -/
structure StandsAs (x y : Door) : Prop extends AsBefore x y where
  state : y.state = x.state := by rfl

theorem StandsAs.atZero {cfg : DoorSettings} {x y : Door} (h : StandsAs x y) : y.atZero cfg = x.atZero cfg := by
  simp only [Door.atZero, h.position, h.inputs]

theorem StandsAs.startsAtOnce {cfg : DoorSettings} {x y : Door} {t : Travel} (h : StandsAs x y) :
    StartsAtOnce cfg x t ↔ StartsAtOnce cfg y t := by
  have same : StartsAtOnce cfg y t ↔ StartsAtOnce cfg x t := by
    constructor
    all_goals
      rintro ⟨unlocked, homed, unchecked⟩
      simp only [checksPressure, h.atZero, h.state, h.becomesCurrent] at unlocked homed unchecked
      exact ⟨by simpa only [h.state] using unlocked, by simpa only [h.state, h.becomesCurrent] using homed,
        by simpa only [checksPressure, h.atZero, h.state] using unchecked⟩
  exact same.symm

/-- The motor of a door starts at once on a travel that no condition of R99 ends. -/
theorem beginTravel_moves {d : Fin 2} {x : Door} {t : Travel} {u : State} (k : StandsAs x (u.door d))
    (h : StartsAtOnce (u.doorCfg d) x t) (hc : ClearTo (u.doorCfg d) x (becomesCurrent (u.doorCfg d) x t)) (n : Nat)
    (edge obstructed : Bool) :
    testsFor (n + 1) edge obstructed d (beginTravel d t u) = beginTravel d t u ∧
      MovesOn (u.doorCfg d) x ((beginTravel d t u).door d) (becomesCurrent (u.doorCfg d) x t) := by
  have current : ((setCurrent d ((u.door d).raised t) u).door d).travel = some (becomesCurrent (u.doorCfg d) x t) := by
    rw [setCurrent_door, Door.makeCurrent_travel, k.becomesCurrent]
  have before : AsBefore x ((setCurrent d ((u.door d).raised t) u).door d) := by
    rw [setCurrent_door]
    exact k.toAsBefore.trans (Door.makeCurrent_asBefore ..)
  have moves := runMotor_tested (u := setCurrent d ((u.door d).raised t) u) before current hc n edge obstructed
  rw [becomesCurrent_dir] at moves
  rw [beginTravel_runs (k.startsAtOnce.mp h)]
  exact moves

/-- An opening from CLOSED, or from HALTED at 0, makes the pressure check (R97). -/
theorem beginTravel_checked {d : Fin 2} {x : Door} {t : Travel} {s u : State} (hf : DoorFrame s u)
    (hr : someDoorRelieving s = false → someDoorRelieving u = false) (k : StandsAs x (u.door d))
    (hs : x.state = .closed ∨ (x.state = .halted ∧ x.atZero (u.doorCfg d) = true)) (hd : t.dir = .toOpen) (n : Nat)
    (edge obstructed : Bool) :
    PressureChecked d x s (testsFor (n + 1) edge obstructed d (beginTravel d t u)) (becomesCurrent (u.doorCfg d) x t) := by
  have checks : checksPressure (u.doorCfg d) (u.door d) t.dir = true :=
    checksPressure_iff.mpr ⟨hd, by rwa [k.state, k.atZero]⟩
  have reaches : ReachesCheck d x (becomesCurrent (u.doorCfg d) x t) s (setCurrent d ((u.door d).raised t) u) := {
    frame := hf.trans (setCurrent_oneDoor d _ u).frame
    before := by
      rw [setCurrent_door]
      exact k.toAsBefore.trans (Door.makeCurrent_asBefore ..)
    travel := by rw [setCurrent_door, Door.makeCurrent_travel, k.becomesCurrent]
    opens := by rw [becomesCurrent_dir, hd]
    relieving := fun h => (someDoorRelieving_congr fun e => by
      by_cases he : e = d
      · subst he; simp [Door.makeCurrent]
      · rw [(setCurrent_oneDoor d _ u).others e he]).trans (hr h) }
  rw [beginTravel_checks checks]
  exact reaches.checked n edge obstructed

/-- A record that finds its door not homed waits behind a homing travel (R110). -/
theorem beginTravel_homing {d : Fin 2} {x : Door} {t : Travel} {u : State} (k : StandsAs x (u.door d))
    (hs : x.state = .unhomed) (hr : (becomesCurrent (u.doorCfg d) x t).reason ≠ .escape)
    (hc : ClearToClose (u.doorCfg d) x currentHoming) (n : Nat) (edge obstructed : Bool) :
    MovesOn (u.doorCfg d) x ((testsFor (n + 1) edge obstructed d (beginTravel d t u)).door d) currentHoming ∧
      ((testsFor (n + 1) edge obstructed d (beginTravel d t u)).door d).slot = some t := by
  have store : (setCurrent d homingTravel (placeInSlot d t u)).store = u.store :=
    (OneDoor.trans (placeInSlot_oneDoor d t u) (setCurrent_oneDoor d _ _)).frame.store
  have cfg : (setCurrent d homingTravel (placeInSlot d t u)).doorCfg d = u.doorCfg d := by simp only [State.doorCfg, store]
  have before : AsBefore x ((setCurrent d homingTravel (placeInSlot d t u)).door d) := by
    rw [setCurrent_door, placeInSlot_door]
    exact k.toAsBefore.trans {}
  have moves := runMotor_tested (t := currentHoming) before (by rw [setCurrent_door, makeCurrent_homing])
    (.of_closes rfl (cfg.symm ▸ hc)) n edge obstructed
  rw [beginTravel_homes (k.state.trans hs) (by rwa [k.becomesCurrent]), show DoorDir.toClose = currentHoming.dir from rfl, moves.1]
  exact ⟨cfg ▸ moves.2, by simp [Door.makeCurrent]⟩

end Sys2Proof.Machine
end

section
/-! A door that comes to rest, and what the record in its slot does then (R99 to R101, R109). -/

namespace Sys2Proof.Machine

/-! ### An empty slot stays empty -/

theorem relock_slot (d : Fin 2) (s : State) : ((relock d s).door d).slot = (s.door d).slot := by
  unfold relock
  split
  · simp
  · rfl

theorem considerSlot_empty {d : Fin 2} {s : State} (h : (s.door d).slot = none) : considerSlot d s = relock d s := by
  simp only [considerSlot, h]

theorem considerSlot_loaded {d : Fin 2} {s : State} {n : Travel} (h : (s.door d).slot = some n) :
    considerSlot d s = beginTravel d n (clearSlot d s) := by
  simp only [considerSlot, h]

theorem clearSlot_of_empty {d : Fin 2} {s : State} (h : (s.door d).slot = none) : clearSlot d s = s := by
  have same : { s.door d with slot := none } = s.door d := by rw [← h]
  rw [clearSlot, same, State.withDoor_door']

theorem finishTravel_slot {d : Fin 2} {e : Termination} {s : State} (h : (s.door d).slot = none) :
    ((finishTravel d e s).door d).slot = none := by
  unfold finishTravel
  split
  · exact h
  · dsimp only
    split
    · simp [clearSlot]
    · split
      · simp [reverse_slot, h]
      · rw [considerSlot_empty (by simpa using h), relock_slot]
        simpa using h

theorem startReopen_slot (d : Fin 2) (b : Bool) (s : State) : ((startReopen d b s).door d).slot = (s.door d).slot := by
  unfold startReopen
  dsimp only
  split <;> simp

theorem testsFor_slot {n : Nat} {edge obstructed : Bool} {d : Fin 2} {s : State} (h : (s.door d).slot = none) :
    ((testsFor n edge obstructed d s).door d).slot = none := by
  induction n generalizing edge obstructed s with
  | zero => exact (startReopen_slot ..).trans h
  | succ n ih =>
    unfold testsFor
    split
    · exact (startReopen_slot ..).trans h
    · rw [clearSlot_of_empty h, ite_self]
      exact ih (finishTravel_slot h)

/-! ### The end of a travel whose motor ran (R100, R109) -/

/-- A state of rest, relocked where the door relocks (R100, R109). -/
def relocked (cfg : DoorSettings) (x : Door) (st : DoorState) : DoorState :=
  if st = .closed ∧ cfg.lockPolicy = .lockedWhenClosed ∧ x.unlockPolicy = false then .closedLocked else st

theorem relock_door {d : Fin 2} {s : State} :
    ((relock d s).door d).state = relocked (s.doorCfg d) (s.door d) (s.door d).state ∧
      ((relock d s).door d).travel = (s.door d).travel := by
  unfold relock relocked
  split
  · simp
  · exact ⟨rfl, rfl⟩

theorem finishTravel_eq {d : Fin 2} {e : Termination} {s : State} {r : Travel} (ht : (s.door d).travel = some r)
    (he : e ≠ .timedOut) (hb : reverses (s.door d) e = false) : finishTravel d e s =
      considerSlot d (enterDoor d ((s.door d).restState (s.doorCfg d) r e) (doneReport d r e s)) := by
  simp only [finishTravel, ht]
  rw [if_neg he, if_neg (by simp [hb])]

/-- A door at rest has no travel to test. -/
theorem testsFor_rests {n : Nat} {edge : Bool} {d : Fin 2} {s : State} (h : (s.door d).travel = none) :
    testsFor n edge false d s = s := by
  have none : (s.door d).termination (s.doorCfg d) edge = none := by simp only [Door.termination, h]
  cases n with
  | zero => simp [testsFor, startReopen]
  | succ n => exact testsFor_goesOn none nofun

/-- The door come to rest, before its slot is considered. -/
def restedAt (d : Fin 2) (st : DoorState) (r : Travel) (e : Termination) (s : State) : State :=
  enterDoor d st (doneReport d r e s)

theorem restedAt_oneDoor (d : Fin 2) (st : DoorState) (r : Travel) (e : Termination) (s : State) :
    OneDoor d s (restedAt d st r e s) := (doneReport_oneDoor d r e s).trans (enterDoor_oneDoor ..)

theorem restedAt_cfg (d : Fin 2) (st : DoorState) (r : Travel) (e : Termination) (s : State) (i : Fin 2) :
    (restedAt d st r e s).doorCfg i = s.doorCfg i := by
  simp only [State.doorCfg, (restedAt_oneDoor d st r e s).frame.store]

/-- The DOOR_DONE report stands in front of what the slot brings (R100). -/
theorem restedAt_reported (d : Fin 2) (st : DoorState) (r : Travel) (e : Termination) (s : State) :
    FirstReport s (restedAt d st r e s) (doorUnit d) (.doorDone r.dir e (s.door d).position r.forced) :=
  (enterDoor_oneDoor d st (doneReport d r e s)).frame.queued

/-- A travel that ends with an empty slot leaves its door at rest, with its DOOR_DONE report (R100). -/
theorem finishTravel_settles {d : Fin 2} {e : Termination} {s : State} {r : Travel} (ht : (s.door d).travel = some r)
    (he : e ≠ .timedOut) (hb : reverses (s.door d) e = false) (hs : (s.door d).slot = none) :
    let t := finishTravel d e s
    (t.door d).travel = none ∧ (t.door d).slot = none ∧
      (t.door d).state = relocked (s.doorCfg d) (s.door d) ((s.door d).restState (s.doorCfg d) r e) ∧
      FirstReport s t (doorUnit d) (.doorDone r.dir e (s.door d).position r.forced) := by
  intro t
  have eq : t = relock d (restedAt d ((s.door d).restState (s.doorCfg d) r e) r e s) := by
    rw [show t = _ from finishTravel_eq ht he hb, considerSlot_empty (by simpa using hs)]
    rfl
  have locks := relock_door (d := d) (s := restedAt d ((s.door d).restState (s.doorCfg d) r e) r e s)
  have unlock : relocked (s.doorCfg d) ((restedAt d ((s.door d).restState (s.doorCfg d) r e) r e s).door d) =
      relocked (s.doorCfg d) (s.door d) := by
    funext st
    simp [relocked, restedAt, Door.entered, Door.startHold, Door.dropReopen]
  refine ⟨?_, finishTravel_slot hs, ?_, ?_⟩
  · rw [eq, locks.2]
    simp [restedAt]
  · rw [eq, locks.1, restedAt_cfg, unlock]
    simp [restedAt]
  · rw [eq]
    exact (restedAt_reported ..).trans (relock_oneDoor ..).frame.queued

theorem restState_eq {cfg : DoorSettings} {x : Door} {r : Travel} {e : Termination}
    (hs : x.state = .opening ∨ x.state = .closing) (he : e ≠ .obstructed) : x.restState cfg r e = comesToRest cfg x r.dir := by
  have moving : ¬ (x.state = .unlocking ∨ x.state = .relieving) := by
    obtain h | h := hs <;> rw [h] <;> exact nofun
  unfold Door.restState comesToRest
  rw [if_neg moving, if_neg he]
  cases x.homed <;> cases r.dir <;> simp

theorem restsAfter_eq {cfg : DoorSettings} {x : Door} (hh : x.homed = true) (dir : DoorDir) :
    restsAfter cfg x dir = relocked cfg x (comesToRest cfg x dir) := by
  cases dir
  · cases h : x.atOpen cfg <;> simp [restsAfter, relocked, comesToRest, hh, h]
  · cases h : x.atZero cfg <;> simp [restsAfter, relocked, comesToRest, hh, h]

theorem AsBefore.restsAfter {cfg : DoorSettings} {x y : Door} (h : AsBefore x y) (dir : DoorDir) :
    restsAfter cfg y dir = restsAfter cfg x dir := by
  have zero : y.atZero cfg = x.atZero cfg := by simp only [Door.atZero, h.position, h.inputs]
  have opened : y.atOpen cfg = x.atOpen cfg := by simp only [Door.atOpen, zero, h.position, h.inputs]
  cases dir
  · simp only [Machine.restsAfter, opened]
  · simp only [Machine.restsAfter, zero, h.unlockPolicy]

/-- The first tests of a travel end it, and its door comes to rest with its slot empty. -/
theorem testsFor_ends {m : Nat} {edge : Bool} {d : Fin 2} {s : State} {r : Travel} {e : Termination}
    (ht : (s.door d).travel = some r) (hq : (s.door d).slot = none)
    (hs : (s.door d).state = .opening ∨ (s.door d).state = .closing) (hh : (s.door d).homed = true)
    (he : e = .endStop ∨ e = .targetReached) (hn : (s.door d).termination (s.doorCfg d) edge = some e) :
    let t := testsFor (m + 1) edge false d s
    FirstReport s t (doorUnit d) (.doorDone r.dir e (s.door d).position r.forced) ∧ (t.door d).travel = none ∧
      (t.door d).state = restsAfter (s.doorCfg d) (s.door d) r.dir := by
  have clear : e ≠ .timedOut ∧ e ≠ .obstructed ∧ reverses (s.door d) e = false ∧ stopsOpening (s.door d) e = false := by
    obtain rfl | rfl := he <;> exact ⟨nofun, nofun, rfl, rfl⟩
  obtain ⟨timed, obstructed, back, stopped⟩ := clear
  obtain ⟨travel, _, state, reported⟩ := finishTravel_settles ht timed back hq
  simp only [testsFor, hn, stopped, Bool.false_or, clearSlot_of_empty hq, ite_self, testsFor_rests travel]
  exact ⟨reported, travel, by rw [state, restState_eq hs obstructed, restsAfter_eq hh]⟩

end Sys2Proof.Machine
end

section
/-! The record of a loaded slot starts behind a travel that has ended (R97, R100, R101). -/

namespace Sys2Proof.Machine

/-! ### A travel that ends at its start (R97, R99) -/

/-- The end-stop of the travel's direction stands, or the door has the target behind it (R99). -/
def EndsAtStart (cfg : DoorSettings) (x : Door) (r : Travel) : Prop :=
  endStopOf x.inputs r.dir = true ∨ ∀ p, r.target = some p → Behind cfg x r p

/-- The end of a travel that ends at its start (R99). -/
def endAtStart (x : Door) (r : Travel) : Termination := if endStopOf x.inputs r.dir then .endStop else .targetReached

theorem becomesCurrent_target (cfg : DoorSettings) (x : Door) (t : Travel) :
    ∃ p, (becomesCurrent cfg x t).target = some p := by
  unfold becomesCurrent
  split <;> exact ⟨_, rfl⟩

theorem termination_atStart {cfg : DoorSettings} {x : Door} {r : Travel} {edge : Bool} (ht : x.travel = some r)
    (hs : x.state = motorState r.dir) (hh : x.homed = true) (hr : ¬ (r.reason = .homing ∧ r.dir = .toClose))
    (hp : ∃ p, r.target = some p) (he : EndsAtStart cfg x r) : x.termination cfg edge = some (endAtStart x r) := by
  have motor : (x.motorOpen || x.motorClose) = true := by
    cases hd : r.dir <;> rw [hd] at hs <;> simp [Door.motorOpen, Door.motorClose, hs, motorState]
  simp only [Door.termination, ht, motor, Bool.true_and, endAtStart]
  by_cases stop : endStopOf x.inputs r.dir = true
  · simp only [stop, if_true]
  · obtain ⟨p, hp⟩ := hp
    have reached : x.targetReached cfg r = true :=
      Door.targetReached_iff.mpr ⟨hh, hr, p, hp, he.resolve_left stop p hp⟩
    simp only [stop, reached, if_true, Bool.false_eq_true, if_false]

/-- A record that starts at once on a homed door and ends at once leaves it at rest, with its report. -/
theorem beginTravel_endsAtOnce {d : Fin 2} {x : Door} {t : Travel} {u : State} (k : StandsAs x (u.door d))
    (hq : (u.door d).slot = none) (h : StartsAtOnce (u.doorCfg d) x t) (hh : x.homed = true)
    (hr : ¬ ((becomesCurrent (u.doorCfg d) x t).reason = .homing ∧ t.dir = .toClose))
    (he : EndsAtStart (u.doorCfg d) x (becomesCurrent (u.doorCfg d) x t)) (m : Nat) (edge : Bool) :
    let v := testsFor (m + 1) edge false d (beginTravel d t u)
    Reported u v (doorUnit d) (.doorDone t.dir (endAtStart x (becomesCurrent (u.doorCfg d) x t)) x.position t.forced) ∧
      (v.door d).travel = none ∧ (v.door d).state = restsAfter (u.doorCfg d) x t.dir := by
  have store : (beginTravel d t u).store = u.store := (beginTravel_oneDoor d t u).frame.store
  have cfg : (beginTravel d t u).doorCfg d = u.doorCfg d := by simp only [State.doorCfg, store]
  have door : (beginTravel d t u).door d =
      ((u.door d).makeCurrent (u.doorCfg d) ((u.door d).raised t)).moving (u.doorCfg d) t.dir := by
    rw [beginTravel_runs (k.startsAtOnce.mp h), runMotor_door, setCurrent_door]
    rfl
  have before : AsBefore x ((beginTravel d t u).door d) := by
    rw [door]
    exact (k.toAsBefore.trans (Door.makeCurrent_asBefore ..)).trans (Door.moving_asBefore ..)
  have travel : ((beginTravel d t u).door d).travel = some (becomesCurrent (u.doorCfg d) x t) := by
    rw [door, ← k.becomesCurrent]
    exact Door.makeCurrent_travel ..
  have state : ((beginTravel d t u).door d).state = motorState t.dir := by rw [door]; rfl
  have slot : ((beginTravel d t u).door d).slot = none := by rw [door]; exact hq
  have ends : EndsAtStart ((beginTravel d t u).doorCfg d) ((beginTravel d t u).door d) (becomesCurrent (u.doorCfg d) x t) := by
    simpa only [EndsAtStart, Behind, cfg, before.inputs, before.position] using he
  have term := termination_atStart (edge := edge) travel (by rw [becomesCurrent_dir]; exact state) (before.homed.trans hh)
    (by rwa [becomesCurrent_dir]) (becomesCurrent_target ..) ends
  have which : endAtStart ((beginTravel d t u).door d) = endAtStart x := by
    funext r
    simp only [endAtStart, before.inputs]
  obtain ⟨reported, empty, rests⟩ := testsFor_ends (m := m) travel slot
    (by rw [state]; cases t.dir <;> simp [motorState]) (before.homed.trans hh)
    (by unfold endAtStart; split <;> simp) term
  rw [becomesCurrent_dir, which, before.position, becomesCurrent_forced] at reported
  rw [becomesCurrent_dir, cfg, before.restsAfter] at rests
  exact ⟨⟨_, (beginTravel_oneDoor d t u).frame.queued, reported⟩, empty, rests⟩

/-! ### The record of a slot (R100, R101) -/

theorem someDoorRelieving_eq_false {s : State} : someDoorRelieving s = false ↔ ∀ d, (s.door d).state ≠ .relieving := by
  simp [someDoorRelieving, allDoors, Fin.forall_fin_two]

theorem startsAtOnce_closes {cfg : DoorSettings} {x : Door} {t : Travel} (hl : x.state ≠ .closedLocked)
    (hh : x.state ≠ .unhomed) (hd : t.dir = .toClose) : StartsAtOnce cfg x t :=
  ⟨hl, fun k => absurd k hh, by simp [checksPressure, hd]⟩

/-- A door from which an opening starts at once. -/
theorem startsAtOnce_opens {cfg : DoorSettings} {x : Door} {t : Travel} (hs : x.state = .isOpen ∨
    (x.state = .halted ∧ x.atZero cfg = false) ∨ (x.state = .unhomed ∧ (becomesCurrent cfg x t).reason = .escape)) :
    StartsAtOnce cfg x t := by
  obtain h | ⟨h, zero⟩ | ⟨h, reason⟩ := hs
  · exact ⟨by rw [h]; nofun, by rw [h]; exact nofun, by simp [checksPressure, h]⟩
  · exact ⟨by rw [h]; nofun, by rw [h]; exact nofun, by simp [checksPressure, h, zero]⟩
  · exact ⟨by rw [h]; nofun, fun _ => reason, by simp [checksPressure, h]⟩

theorem beginTravel_slot {d : Fin 2} {x : Door} {t : Travel} {u : State} (k : StandsAs x (u.door d))
    (hq : (u.door d).slot = none) (hs : x.state ≠ .unhomed ∨ (becomesCurrent (u.doorCfg d) x t).reason = .escape) :
    ((beginTravel d t u).door d).slot = none := by
  have homed : ¬ ((u.door d).state = .unhomed ∧ ((u.door d).raised t).reason ≠ .escape) := by
    rw [← becomesCurrent_reason (u.doorCfg d), k.becomesCurrent, k.state]
    exact fun ⟨unhomed, other⟩ => hs.elim (fun h => h unhomed) other
  simp only [beginTravel, if_neg homed]
  split
  · simp [Door.makeCurrent, hq]
  · split
    · simp [pressureCheck_slot, Door.makeCurrent, hq]
    · simp [Door.makeCurrent, hq]

/-- The record `n` starts on a door that rests as `x`, its slot empty now (R97, R100, R101, R110). -/
theorem beginTravel_nextStarts {d : Fin 2} {x : Door} {n : Travel} {s u : State} (hf : DoorFrame s u)
    (hr : someDoorRelieving s = false → someDoorRelieving u = false) (k : StandsAs x (u.door d))
    (hq : (u.door d).slot = none) (m : Nat) (edge : Bool) :
    NextStarts d x n s (testsFor (m + 1) edge false d (beginTravel d n u)) := by
  have cfg : s.doorCfg d = u.doorCfg d := by simp only [State.doorCfg, hf.store]
  have moves (starts : StartsAtOnce (u.doorCfg d) x n)
      (clear : ClearTo (u.doorCfg d) x (becomesCurrent (u.doorCfg d) x n)) :
      MovesOn (u.doorCfg d) x ((testsFor (m + 1) edge false d (beginTravel d n u)).door d) (becomesCurrent (u.doorCfg d) x n) := by
    have begun := beginTravel_moves k starts clear m edge false
    rw [begun.1]
    exact begun.2
  have reported_in {P : Prop} {v : State} {q : ReportData} (h : Reported u v (doorUnit d) q ∧ P) :
      Reported s v (doorUnit d) q ∧ P := by
    obtain ⟨⟨r, before, arrived⟩, rest⟩ := h
    exact ⟨⟨r, hf.queued.trans before, arrived⟩, rest⟩
  have endsAtOnce (starts : StartsAtOnce (u.doorCfg d) x n) (hh : x.homed = true)
      (hn : ¬ ((becomesCurrent (u.doorCfg d) x n).reason = .homing ∧ n.dir = .toClose))
      (ends : EndsAtStart (u.doorCfg d) x (becomesCurrent (u.doorCfg d) x n)) :=
    beginTravel_endsAtOnce k hq starts hh hn ends m edge
  refine ⟨?_, ?_, ?_, ?_, ?_, ?_, ?_⟩
  all_goals rw [cfg]
  · exact fun hs hn hc => beginTravel_homing k hs hn hc m edge false
  · exact fun hs => testsFor_slot (beginTravel_slot k hq hs)
  · exact fun hs hd => beginTravel_checked hf hr k hs hd m edge false
  · exact fun hs hd hc => moves (startsAtOnce_opens hs) (.of_opens (by rwa [becomesCurrent_dir]) hc)
  · intro hs hd hc
    refine moves (startsAtOnce_closes ?_ ?_ hd) (.of_closes (by rwa [becomesCurrent_dir]) hc)
    all_goals obtain h | h | h := hs <;> rw [h] <;> exact nofun
  · intro hs hd hn hh he
    have reason : (becomesCurrent (u.doorCfg d) x n).reason = n.reason := by
      rw [becomesCurrent_reason, Door.raised, if_neg (by simp [hd])]
    have ends : EndsAtStart (u.doorCfg d) x (becomesCurrent (u.doorCfg d) x n) := by
      simpa [EndsAtStart, Behind, endStopOf, hd] using he
    have ended := endsAtOnce (startsAtOnce_closes (by obtain h | h | h := hs <;> rw [h] <;> exact nofun)
      (by obtain h | h | h := hs <;> rw [h] <;> exact nofun) hd) hh (by simp [reason, hn]) ends
    simpa [hd, endAtStart, endStopOf] using reported_in ended
  · intro hs hd hh he
    have ends : EndsAtStart (u.doorCfg d) x (becomesCurrent (u.doorCfg d) x n) := by
      simpa [EndsAtStart, Behind, endStopOf, hd] using he
    have ended := endsAtOnce (startsAtOnce_opens (hs.imp_right .inl)) hh (by simp [hd]) ends
    simpa [hd, endAtStart, endStopOf] using reported_in ended

/-- The door that has come to rest stands as R100 has it. -/
theorem restedAt_standsAs {d : Fin 2} {st : DoorState} {r : Travel} {e : Termination} {s : State}
    (hs : st = .isOpen ∨ st = .closed ∨ st = .halted ∨ st = .unhomed) :
    StandsAs (restedDoor (s.doorCfg d) (s.door d) st) ((clearSlot d (restedAt d st r e s)).door d) := by
  have door : (clearSlot d (restedAt d st r e s)).door d =
      { ({ s.door d with travel := none, travelTimer := none, creep := false }.entered (s.doorCfg d) st) with slot := none } := by
    have cfg : (doneReport d r e s).doorCfg d = s.doorCfg d := rfl
    simp only [clearSlot, restedAt, State.withDoor_door_self, enterDoor_door, doneReport_door, cfg]
  rw [door]
  obtain rfl | rfl | rfl | rfl := hs <;> exact { }

/-- A travel that ends neither TIMED_OUT nor reversed leaves its door at rest, or starts the record of its slot (R100). -/
theorem finishTravel_rests {d : Fin 2} {e : Termination} {s : State} {r : Travel} (ht : (s.door d).travel = some r)
    (he : e ≠ .timedOut) (hb : reverses (s.door d) e = false) (m : Nat) (edge : Bool) :
    Rests d (s.door d) ((s.door d).restState (s.doorCfg d) r e) s (testsFor (m + 1) edge false d (finishTravel d e s)) where
  empty hq := by
    obtain ⟨travel, slot, state, _⟩ := finishTravel_settles ht he hb hq
    rw [testsFor_rests travel]
    exact ⟨travel, slot, state⟩
  loaded n hn := by
    let st := (s.door d).restState (s.doorCfg d) r e
    have rests : st = .isOpen ∨ st = .closed ∨ st = .halted ∨ st = .unhomed := by
      simp only [st, Door.restState]
      split_ifs <;> simp
    have begun : finishTravel d e s = beginTravel d n (clearSlot d (restedAt d st r e s)) := by
      rw [finishTravel_eq ht he hb]
      exact considerSlot_loaded (by simpa using hn)
    have oneDoor := (restedAt_oneDoor d st r e s).trans (clearSlot_oneDoor d _)
    have stands := restedAt_standsAs (r := r) (e := e) (s := s) (d := d) rests
    rw [begun]
    refine beginTravel_nextStarts oneDoor.frame (fun hr => ?_) stands (by simp [clearSlot]) m edge
    refine someDoorRelieving_eq_false.mpr fun i => ?_
    by_cases hi : i = d
    · subst hi
      rw [stands.state]
      obtain h | h | h | h := rests <;> rw [h] <;> exact nofun
    · rw [oneDoor.others i hi]
      exact someDoorRelieving_eq_false.mp hr i

theorem testsFor_ended {n : Nat} {edge obstructed : Bool} {d : Fin 2} {s : State} {e : Termination}
    (h : (s.door d).termination (s.doorCfg d) edge = some e) : testsFor (n + 1) edge obstructed d s =
      testsFor n (!reverses (s.door d) e) (obstructed || stopsOpening (s.door d) e) d
        (finishTravel d e (if n < 2 then clearSlot d s else s)) := by
  simp only [testsFor, h]

/-! ### A target met at a step of the travel timer (R96, R99) -/

theorem TargetMet.moving {cfg : DoorSettings} {x : Door} {r : Travel} (h : TargetMet cfg x r) :
    x.state = motorState r.dir ∧ x.homed = true ∧ r.reason ≠ .homing ∧ endStopOf x.inputs r.dir = false ∧
      ∃ p, r.target = some p ∧ Behind cfg x r p := by
  obtain ⟨homed, reason, p, hp, ⟨hs, hd, stop, reached⟩ | ⟨hs, hd, stop, reached⟩⟩ := h
  all_goals exact ⟨by rw [hd]; exact hs, homed, reason, by rw [hd]; exact stop, p, hp, by simp [Behind, hd, reached]⟩

theorem TargetMet.termination {cfg : DoorSettings} {x : Door} {r : Travel} (h : TargetMet cfg x r) (ht : x.travel = some r)
    (edge : Bool) : x.termination cfg edge = some .targetReached := by
  obtain ⟨state, homed, reason, stop, p, hp, behind⟩ := h.moving
  have ends : EndsAtStart cfg x r := .inr fun q hq => by
    rw [hp, Option.some_inj] at hq
    exact hq ▸ behind
  rw [termination_atStart ht state homed (fun k => reason k.1) ⟨p, hp⟩ ends, endAtStart, stop]
  rfl

/-- A step of the travel timer ends a travel that has its target behind it (R99, R100). -/
theorem testTravel_targetMet {d : Fin 2} {s : State} {r : Travel} (ht : (s.door d).travel = some r)
    (h : TargetMet (s.doorCfg d) (s.door d) r) :
    FirstReport s (testTravel d s) (doorUnit d) (.doorDone r.dir .targetReached (s.door d).position r.forced) ∧
      Rests d (s.door d) (comesToRest (s.doorCfg d) (s.door d) r.dir) s (testTravel d s) := by
  obtain ⟨state, _⟩ := h.moving
  have moving : (s.door d).state = .opening ∨ (s.door d).state = .closing := by
    rw [state]
    cases r.dir <;> simp [motorState]
  have tested : testTravel d s = testsFor 5 true false d (finishTravel d .targetReached s) := by
    rw [testTravel, testsFor_ended (h.termination ht false)]
    rfl
  have rests := finishTravel_rests ht (e := .targetReached) nofun rfl 4 true
  rw [restState_eq (e := .targetReached) moving nofun] at rests
  rw [tested]
  refine ⟨?_, rests⟩
  have considered : OneDoor d (restedAt d ((s.door d).restState (s.doorCfg d) r .targetReached) r .targetReached s)
      (finishTravel d .targetReached s) := by
    rw [finishTravel_eq (e := .targetReached) ht nofun rfl]
    exact considerSlot_oneDoor d _
  exact (restedAt_reported ..).trans (considered.trans (testsFor_oneDoor ..)).frame.queued

end Sys2Proof.Machine
end

section
/-! What no travel changes at its door: the position, the inputs, the policies and the held sources. -/

namespace Sys2Proof.Machine

/-- `y` stands where `x` stood, under the same policies and the same held sources (R95, R105, R109). -/
structure Holds (x y : Door) : Prop where
  position : y.position = x.position := by rfl
  scenario : y.escape.scenario = x.escape.scenario := by rfl
  unlockPolicy : y.unlockPolicy = x.unlockPolicy := by rfl

/-- The event leaves the position, the policies and the held sources of door `d` alone. -/
def Stays (d : Fin 2) (s t : State) : Prop := Holds (s.door d) (t.door d)

theorem Stays.refl (d : Fin 2) (s : State) : Stays d s s := {}

theorem Stays.trans {d : Fin 2} {s t u : State} (a : Stays d s t) (b : Stays d t u) : Stays d s u where
  position := b.position.trans a.position
  scenario := b.scenario.trans a.scenario
  unlockPolicy := b.unlockPolicy.trans a.unlockPolicy

theorem Stays.withDoor (d : Fin 2) {x : Door} {s : State} (h : Holds (s.door d) x) : Stays d s (s.withDoor d x) := by
  rw [Stays, State.withDoor_door_self]
  exact h

theorem Stays.of_fan {d : Fin 2} {s t : State} (h : FanFrame s t) : Stays d s t := by
  rw [Stays, h.door]
  exact {}

theorem Stays.report (d : Fin 2) (u : Nat) (r : ReportData) (s : State) : Stays d s (report u r s) := .of_fan (.report u r s)

theorem enterDoor_stays (d : Fin 2) (st : DoorState) (s : State) : Stays d s (enterDoor d st s) := by
  rw [Stays, enterDoor_door]
  cases st <;> exact ⟨rfl, rfl, rfl⟩

theorem relock_stays (d : Fin 2) (s : State) : Stays d s (relock d s) := by
  unfold relock
  split
  · exact enterDoor_stays ..
  · exact .refl d s

theorem runMotor_stays (d : Fin 2) (dir : DoorDir) (s : State) : Stays d s (runMotor d dir s) :=
  ((Stays.withDoor d {}).trans (enterDoor_stays ..)).trans (.withDoor d {})

theorem setCurrent_stays (d : Fin 2) (t : Travel) (s : State) : Stays d s (setCurrent d t s) := .withDoor d {}

theorem clearSlot_stays (d : Fin 2) (s : State) : Stays d s (clearSlot d s) := .withDoor d {}

theorem raiseCurrent_stays (d : Fin 2) (s : State) : Stays d s (raiseCurrent d s) := .withDoor d {}

theorem placeInSlot_stays (d : Fin 2) (t : Travel) (s : State) : Stays d s (placeInSlot d t s) := by
  rw [Stays, placeInSlot_door]
  exact {}

theorem endRelief_stays (d : Fin 2) (o : ReliefOutcome) (s : State) : Stays d s (endRelief d o s) := by
  have reported : Stays d s (reliefReported d o s) := by
    rw [Stays, reliefReported, report_door, State.withDoor_door_self]
    exact {}
  rw [endRelief_eq]
  exact reported.trans (runMotor_stays ..)

theorem enterRelieving_stays (d : Fin 2) (c : Fin 8) (s : State) : Stays d s (enterRelieving d c s) := by
  have entered : Stays d s (enterDoor d .relieving (relievingOn d c s)) := (Stays.withDoor d {}).trans (enterDoor_stays ..)
  rw [enterRelieving_eq]
  split
  · exact entered.trans (endRelief_stays ..)
  · exact entered

theorem pressureCheck_stays (d : Fin 2) (s : State) : Stays d s (pressureCheck d s) := by
  unfold pressureCheck
  split
  · exact runMotor_stays ..
  · split
    · exact runMotor_stays ..
    · exact enterRelieving_stays ..

theorem beginTravel_stays (d : Fin 2) (t : Travel) (s : State) : Stays d s (beginTravel d t s) := by
  unfold beginTravel
  dsimp only
  split
  · exact ((placeInSlot_stays ..).trans (setCurrent_stays ..)).trans (runMotor_stays ..)
  · refine (setCurrent_stays d ((s.door d).raised t) s).trans ?_
    split
    · exact (Stays.withDoor d {}).trans (enterDoor_stays ..)
    · split
      · exact pressureCheck_stays ..
      · exact runMotor_stays ..

theorem reverse_stays (d : Fin 2) (t : Travel) (s : State) : Stays d s (reverse d t s) := by
  unfold reverse
  dsimp only
  refine Stays.trans (.withDoor d ?_) ((setCurrent_stays ..).trans (runMotor_stays ..))
  split <;> exact {}

theorem considerSlot_stays (d : Fin 2) (s : State) : Stays d s (considerSlot d s) := by
  unfold considerSlot
  split
  · exact (clearSlot_stays d s).trans (beginTravel_stays ..)
  · exact relock_stays ..

theorem startReopen_stays (d : Fin 2) (b : Bool) (s : State) : Stays d s (startReopen d b s) := by
  unfold startReopen
  dsimp only
  split
  · exact .withDoor d {}
  · exact .refl d s

theorem finishTravel_stays (d : Fin 2) (e : Termination) (s : State) : Stays d s (finishTravel d e s) := by
  unfold finishTravel
  split
  · exact .refl d s
  · next t _ =>
    have reported : Stays d s (doneReport d t e s) := (Stays.withDoor d {}).trans (.report ..)
    dsimp only
    refine reported.trans ?_
    split
    · exact (clearSlot_stays ..).trans (enterDoor_stays ..)
    · split
      · exact reverse_stays ..
      · exact (enterDoor_stays ..).trans (considerSlot_stays ..)

theorem testsFor_stays (n : Nat) (edge obstructed : Bool) (d : Fin 2) (s : State) :
    Stays d s (testsFor n edge obstructed d s) := by
  induction n generalizing edge obstructed s with
  | zero => exact startReopen_stays ..
  | succ n ih =>
    unfold testsFor
    split
    · exact startReopen_stays ..
    · refine Stays.trans ?_ (ih _ _ _)
      split
      · exact (clearSlot_stays ..).trans (finishTravel_stays ..)
      · exact finishTravel_stays ..

theorem startTravel_stays (d : Fin 2) (t : Travel) (s : State) : Stays d s (startTravel d t s) :=
  (beginTravel_stays d t s).trans (testsFor_stays ..)

end Sys2Proof.Machine
end

section
/-! The idle step (R169; log entry 1). -/

namespace Sys2Proof.Machine

/-! ### What no expiry touches -/

/-- The time base, the line but for its receiver, the store, the channels, the demand unit and the command queue are as they were. -/
structure Idles (s t : State) : Prop where
  timeBase : t.reports.timeBase = s.reports.timeBase := by rfl
  line : t.line = { s.line with receiver := t.line.receiver, rxGap := t.line.rxGap } := by rfl
  store : t.store = s.store := by rfl
  channels : t.channels = s.channels := by rfl
  demand : t.demand = s.demand := by rfl
  pending : t.pending = s.pending := by rfl

theorem Idles.refl (s : State) : Idles s s := {}

theorem Idles.trans {s t u : State} (a : Idles s t) (b : Idles t u) : Idles s u where
  timeBase := b.timeBase.trans a.timeBase
  line := by rw [b.line, a.line]
  store := b.store.trans a.store
  channels := b.channels.trans a.channels
  demand := b.demand.trans a.demand
  pending := b.pending.trans a.pending

theorem Queued.timeBase {q q' : ReportQueue} (h : Queued q q') : q'.timeBase = q.timeBase := by
  obtain ⟨l, rfl⟩ := h
  induction l generalizing q with
  | nil => rfl
  | cons r l ih => exact ih.trans (q.arrive_timeBase ..)

theorem Idles.of_door {s t : State} (h : DoorFrame s t) : Idles s t where
  timeBase := h.queued.timeBase
  line := by rw [h.line]
  store := h.store
  channels := h.channels
  demand := h.demand
  pending := h.pending

theorem Idles.of_fan {s t : State} (h : FanFrame s t) : Idles s t := .of_door h.doorFrame

theorem Idles.report (u : Nat) (r : ReportData) (s : State) : Idles s (report u r s) := .of_fan (.report u r s)

theorem Idles.takeEach {α : Type} {act : α → State → State} (each : ∀ x s, Idles s (act x s)) (l : List α) (s : State) :
    Idles s (takeEach l act s) := takeEach_rel Idles .refl (fun _ _ _ => .trans) act each l s

theorem Idles.takeInAnyOrder {α : Type} {act : α → State → State} (each : ∀ x s, Idles s (act x s)) (l : List α) (s : State) :
    Idles s (takeInAnyOrder l act s) := takeInAnyOrder_rel Idles .refl (fun _ _ _ => .trans) (fun _ => {}) act each l s

theorem startDelayExpiry_idles (f : Fin 4) (s : State) : Idles s (startDelayExpiry f s) := by
  unfold startDelayExpiry
  split
  · exact Idles.trans {} (.of_fan (refreshIncident_frame ..))
  · exact .refl s

theorem leaveManual_idles (cause : ModeCause) (s : State) : Idles s (leaveManual cause s) := by
  have discarded (s : State) : Idles s (discardSetpoints s) := .takeEach (fun _ _ => {}) ..
  have moded : Idles s (s.withModes { s.modes with mode := .auto }) := {}
  exact ((moded.trans (.report ..)).trans (discarded _)).trans (.takeInAnyOrder (fun f s => .of_fan (refreshAuto_frame f s)) ..)

theorem linkTimeout_idles (s : State) : Idles s (linkTimeout s) := by
  have lost : Idles s (report 0 (.link false) (s.withModes { s.modes with linkTimer := none, lineLost := true })) :=
    Idles.trans (t := s.withModes { s.modes with linkTimer := none, lineLost := true }) {} (.report ..)
  unfold linkTimeout
  split
  · unfold linkExpires
    dsimp only
    split
    · exact lost.trans (leaveManual_idles ..)
    · exact lost
  · exact .refl s

theorem stopAsserted_idles (s : State) : Idles s (stopAsserted s) := by
  unfold stopAsserted
  split
  · exact .refl s
  · have taken : Idles s { s with stop := .taken true } := {}
    have cleared : Idles s (takeEach allFans leaveArbiter (report 0 (.line .stop true) { s with stop := .taken true })) :=
      (taken.trans (.report ..)).trans (.takeEach (fun f s => .of_fan (leaveArbiter_frame f s)) ..)
    exact cleared.trans (.takeInAnyOrder (fun f s => .of_fan (stopFan_frame f s)) ..)

theorem escapeAsserted_idles (s : State) : Idles s (escapeAsserted s) := by
  unfold escapeAsserted
  split
  · exact .refl s
  · have taken : Idles s { s with escape := .taken true } := {}
    exact (taken.trans (.report ..)).trans (.takeInAnyOrder (fun d s => .of_door (arrive_kept d .escapeLine s).one.frame) ..)

theorem maintAsserted_idles (s : State) : Idles s (maintAsserted s) := by
  unfold maintAsserted
  split
  · exact .refl s
  · have taken : Idles s { s with maint := .taken true } := {}
    exact taken.trans (.report ..)

theorem expiryAct_idles (e : Expiry) (s : State) : Idles s (e.act s) := by
  cases e with
  | coast f => exact .of_fan (coastTest_frame ..)
  | startLimit f => exact .of_fan (startLimitExpiry_frame ..)
  | verify f => exact .of_fan (verifyWindowExpiry_frame ..)
  | credit f => exact .of_fan (creditRegeneration_frame ..)
  | tach f => exact .of_fan (tachTimeout_frame ..)
  | edge f => exact .of_fan (tachTakesSamples_frame f 50 s)
  | delay f => exact startDelayExpiry_idles ..
  | settle d => exact .of_door (settleExpiry_kept ..).one.frame
  | travelStep d => exact .of_door (testTravel_oneDoor ..).frame
  | travel d => exact .of_door (travelTimeout_kept ..).one.frame
  | hold d => exact .of_door (holdOpenExpiry_kept ..).one.frame
  | reopen d => exact .of_door (reopenExpiry_kept ..).one.frame
  | blind d => exact .of_door ((endRelief_oneDoor ..).trans (testStart_oneDoor ..)).frame
  | relief d => exact .of_door ((endRelief_oneDoor ..).trans (testStart_oneDoor ..)).frame
  | link => exact linkTimeout_idles s
  | gap => exact {}
  | stop => exact stopAsserted_idles s
  | escape => exact escapeAsserted_idles s
  | maint => exact maintAsserted_idles s

theorem expiryTake_idles (e : Expiry) (s : State) : Idles s (e.take s) := by
  unfold Expiry.take
  split
  · exact expiryAct_idles e s
  · exact .refl s

/-! ### The step with nothing due -/

theorem step_idle {s : State} (h : s.pending = []) : step s = .next (tick s) := by
  simp only [step, h]

/-- The expiries due at the step (R169). -/
def dueExpiries (s : State) : List Expiry := allExpiries.filter fun e => e.due (advanceTimers s)

theorem tick_eq (s : State) : tick s =
    takeEach (arrange (advanceTimers s).freeChoice (dueExpiries s)) Expiry.take (advanceTimers s).nextChoice := rfl

theorem tick_quiet {s : State} (h : ∀ e, Expiry.due (advanceTimers s) e = false) : tick s = (advanceTimers s).nextChoice := by
  have none : dueExpiries s = [] := List.filter_eq_nil_iff.mpr fun e _ => by simp [h e]
  rw [tick_eq, none]
  rfl

/-- Where no edge is due the tach input takes its samples at the accepted level. -/
theorem tickFan_quiet {x : Fan} (h : x.tach.pin = x.tach.level) : tickFan x = { x with
    tach := { x.tach with disagreement := 0, timeout := x.tach.timeout.map (· + 1000)
                          periodAge := x.tach.periodAge.map (· + 1000) }
    creditTimer := x.creditTimer.map (· + 1)
    offTime := if drives x.state then x.offTime else min 600000 (x.offTime + 1)
    standstill := if drives x.state = true ∨ x.tach.rpm ≠ 0 then x.standstill else min 5000 (x.standstill + 1) } := by
  have tach : tickTach x.tach = { x.tach with
      disagreement := 0, timeout := x.tach.timeout.map (· + 1000), periodAge := x.tach.periodAge.map (· + 1000) } := by
    simp [tickTach, h, Tach.run]
  unfold tickFan
  rw [tach]
  by_cases hd : drives x.state = true
  · simp [hd]
  · by_cases hr : x.tach.rpm = 0 <;> simp [hd, hr, Fan.passTime]

theorem tickDoor_eq (cfg : DoorSettings) (x : Door) : tickDoor cfg x = { x with
    settle := x.settle.map (· + 1)
    travelTimer := x.travelTimer.map (· + 1)
    holdOpen := if x.state = .isOpen ∧ cfg.autoReclose = true ∧ x.escape.escapeLine = false ∧ x.escape.scenario = false ∧
      x.recloseSuspended = false ∧ x.inputs.presence = false then x.holdOpen.map (· + 1) else x.holdOpen
    reopen := x.reopen.map (· + 1)
    reliefTimer := x.reliefTimer.map (· + 1) } := by
  have hold : (if x.holdRuns cfg = true then x.holdOpen.map (· + 1) else x.holdOpen) =
      if x.state = .isOpen ∧ cfg.autoReclose = true ∧ x.escape.escapeLine = false ∧ x.escape.scenario = false ∧
        x.recloseSuspended = false ∧ x.inputs.presence = false then x.holdOpen.map (· + 1) else x.holdOpen := by
    cases hh : x.holdOpen with
    | none => exact (ite_self _).trans (ite_self _).symm
    | some ms => exact if_congr (by simp only [Door.holdRuns, Door.mayReclose, Door.holdingReason, hh, Option.isSome_some,
        Bool.true_and, Bool.and_eq_true, Bool.not_eq_true', Bool.or_eq_false_iff, beq_iff_eq, and_assoc]) rfl rfl
  simp only [tickDoor, hold]

end Sys2Proof.Machine
end

section
/-! The idle step with one expiry due, and the steps of the travel timer (R96, R99, R169). -/

namespace Sys2Proof.Machine

/-! ### One expiry due -/

theorem due_nextChoice (s : State) (e : Expiry) : e.due s.nextChoice = e.due s := by
  cases e <;> rfl

/-- The place of an expiry among all of them. -/
def Expiry.place : Expiry → Nat
  | .coast f => 7 * f
  | .startLimit f => 7 * f + 1
  | .verify f => 7 * f + 2
  | .credit f => 7 * f + 3
  | .tach f => 7 * f + 4
  | .edge f => 7 * f + 5
  | .delay f => 7 * f + 6
  | .settle d => 28 + 7 * d
  | .travelStep d => 29 + 7 * d
  | .travel d => 30 + 7 * d
  | .hold d => 31 + 7 * d
  | .reopen d => 32 + 7 * d
  | .blind d => 33 + 7 * d
  | .relief d => 34 + 7 * d
  | .link => 42
  | .gap => 43
  | .stop => 44
  | .escape => 45
  | .maint => 46

theorem allExpiries_places : allExpiries.map Expiry.place = List.range 47 := rfl

theorem allExpiries_nodup : allExpiries.Nodup := .of_map Expiry.place (allExpiries_places ▸ List.nodup_range)

theorem mem_fanExpiries {f : Fin 4} {e : Expiry} (h : e ∈ fanExpiries f) : e ∈ allExpiries :=
  List.mem_append_left _ (List.mem_append_left _ (List.mem_flatMap.mpr ⟨f, mem_allFans f, h⟩))

theorem mem_doorExpiries {d : Fin 2} {e : Expiry} (h : e ∈ doorExpiries d) : e ∈ allExpiries :=
  List.mem_append_left _ (List.mem_append_right _ (List.mem_flatMap.mpr ⟨d, mem_allDoors d, h⟩))

theorem mem_allExpiries (e : Expiry) : e ∈ allExpiries := by
  cases e with
  | coast f | startLimit f | verify f | credit f | tach f | edge f | delay f =>
    exact mem_fanExpiries (f := f) (by simp [fanExpiries])
  | settle d | travelStep d | travel d | hold d | reopen d | blind d | relief d =>
    exact mem_doorExpiries (d := d) (by simp [doorExpiries])
  | link | gap | stop | escape | maint => exact List.mem_append_right _ (by simp)

theorem allExpiries_once (e : Expiry) : allExpiries.filter (fun e' => decide (e' = e)) = [e] := by
  have once := List.count_eq_one_of_mem allExpiries_nodup (mem_allExpiries e)
  rw [List.filter_eq, once]
  rfl

theorem tick_single {s : State} {e : Expiry} (h : ∀ e', Expiry.due (advanceTimers s) e' = decide (e' = e)) :
    tick s = e.act (advanceTimers s).nextChoice := by
  have only : dueExpiries s = [e] := by
    simp only [dueExpiries, h]
    exact allExpiries_once e
  have due : e.due (advanceTimers s).nextChoice = true := by rw [due_nextChoice, h]; exact decide_eq_true rfl
  rw [tick_eq, only]
  exact if_pos due

theorem coastWait_of_met {cfg : FanSettings} {x : Fan} (h : coastMet cfg x = true) : coastWait cfg x = 0 := by
  obtain ⟨dwell, limit⟩ := coastMet_iff.mp h
  have dwelt : cfg.minDwell * 1000 - x.offTime = 0 := Nat.sub_eq_zero_of_le dwell
  simp only [coastWait, dwelt, Nat.zero_max]
  by_cases stands : cfg.pulsesPerRev ≠ 0 ∧ 5000 ≤ x.standstill
  · exact if_pos stands
  · rw [if_neg stands, Nat.sub_eq_zero_of_le (limit.resolve_left stands), Nat.zero_min, ite_self]

theorem Fan.passTime_again (x : Fan) : (x.passTime 1).passTime 0 = x.passTime 1 := by
  by_cases hr : x.tach.rpm = 0 <;> simp [Fan.passTime, hr]

/-- A fan whose coast conditions are met by the step itself has no more time to pass (R54). -/
theorem coast_row {s : State} {f : Fin 4} (h : (Expiry.coast f).due (advanceTimers s) = true) :
    coastConditionsMet f (advanceTimers s).nextChoice = coastTest f (advanceTimers s).nextChoice := by
  simp only [Expiry.due, Bool.and_eq_true, Bool.or_eq_true, beq_iff_eq] at h
  obtain ⟨hs, met⟩ := h
  have state : ((advanceTimers s).fan f).state = .coasting ∨ ((advanceTimers s).fan f).state = .tripped :=
    hs.imp_right And.left
  have passed : ((advanceTimers s).fan f).passTime 0 = (advanceTimers s).fan f := by
    rw [advanceTimers_fan] at state ⊢
    have rests : drives (s.fan f).state = false := by
      rw [← (tickFan_same (s.fan f)).state]
      obtain h | h := state <;> rw [h] <;> rfl
    unfold tickFan
    rw [rests]
    exact Fan.passTime_again _
  have same : (advanceTimers s).nextChoice.withFan f (((advanceTimers s).nextChoice.fan f).passTime
      (coastWait ((advanceTimers s).nextChoice.fanCfg f) ((advanceTimers s).nextChoice.fan f))) =
      (advanceTimers s).nextChoice := by
    have waits := coastWait_of_met met
    simp only [State.nextChoice_fan, State.nextChoice_fanCfg, waits, passed]
    exact State.withFan_fan (advanceTimers s).nextChoice f
  rw [coastConditionsMet_eq (s := (advanceTimers s).nextChoice) state, same]

/-- An expiry with a row does at the step what the command of its row does. -/
theorem exec_row {s : State} {e : Expiry} {i : Instr} (hd : e.due (advanceTimers s) = true)
    (h : e.row (advanceTimers s).nextChoice = some i) :
    exec i (advanceTimers s).nextChoice = .next (e.act (advanceTimers s).nextChoice) := by
  cases e
  case coast f =>
    cases h
    exact congrArg Host.Outcome.next (coast_row hd)
  case edge f =>
    cases h
    have pinned := withTach_self f (advanceTimers s).nextChoice
    exact congrArg (fun u => Host.Outcome.next (tachTakesSamples f 50 u)) pinned
  case travelStep | blind | relief => cases h
  all_goals
    cases h
    rfl

/-- An end of relief: its report, and the opening that goes on (R122 to R124). -/
theorem reliefEnds {d : Fin 2} {o : ReliefOutcome} {s : State} {r : Travel} {τ : Nat} (hτ : (s.door d).reliefTimer = some τ)
    (ht : (s.door d).travel = some r) (hd : r.dir = .toOpen) (hc : ClearToOpen (s.doorCfg d) (s.door d) r) :
    let t := testStart d (endRelief d o s)
    DoorFrame s t ∧ OtherDoors d s t ∧
      FirstReport s t (doorUnit d) (.relief o (τ / 100) (if o = .blind then none else (s.door d).lastObserved)) ∧
      MovesOn (s.doorCfg d) (s.door d) (t.door d) (relieved o r) := by
  have one := (endRelief_oneDoor d o s).trans (testStart_oneDoor d _)
  have reported := endRelief_reported d o s 6 true false
  rw [hτ] at reported
  exact ⟨one.frame, one.others, reported, endRelief_moves (.refl _) ht hd hc 5 true false⟩

/-! ### The steps of the travel timer (R97, R99) -/

theorem travelStepEnds_of_met {cfg : DoorSettings} {x : Door} {r : Travel} {τ : Nat} (ht : x.travel = some r)
    (hτ : x.travelTimer = some τ) (hs : τ % 100 = 0) (h : TargetMet cfg x r) : travelStepEnds cfg x = true := by
  have motor : (x.motorOpen || x.motorClose) = true := by
    have hs := h.moving.1
    cases hd : r.dir <;> rw [hd] at hs <;> simp [Door.motorOpen, Door.motorClose, hs, motorState]
  simp [travelStepEnds, motor, atStep, hτ, hs, h.termination ht]

/-- A travel that goes on meets no condition but TIMED_OUT between its own tests. -/
theorem GoesOn.termination {cfg : DoorSettings} {x : Door} {r : Travel} (h : GoesOn cfg x r) (ht : x.travel = some r) :
    x.termination cfg false = none := by
  have stop : endStopOf x.inputs r.dir = false := by
    have := h.endStop
    cases hd : r.dir <;> rw [hd] at this <;> exact this
  have missed : x.targetReached cfg r = false := by
    rw [← Bool.not_eq_true, Door.targetReached_iff]
    rintro ⟨homed, reason, p, hp, opens, closes⟩
    obtain ⟨before, behind⟩ := h.target homed reason p hp
    cases hd : r.dir
    · exact absurd (opens hd) (not_le.mpr (before hd))
    · exact absurd (closes hd) (not_le.mpr (behind hd))
  have held : (r.mode == .hold && !serviceButton x.inputs r.dir) = false := by
    have := h.held
    by_cases hm : r.mode = .hold
    · have held := this hm
      cases hd : r.dir <;> rw [hd] at held <;> simp [hm, serviceButton, held]
    · simp [hm]
  have timed : (x.travelTimer.any fun ms => decide (cfg.travelLimit * 1000 ≤ ms)) = false := by
    rw [Option.any_eq_false]
    intro ms hms
    have := h.timer ms hms
    simp
    omega
  simp only [Door.termination, ht, stop, missed, Bool.and_false, Bool.false_and, Bool.false_eq_true, if_false, Bool.and_assoc,
    held, timed]

theorem travelStepEnds_of_goesOn {cfg : DoorSettings} {x : Door} {r : Travel} (ht : x.travel = some r) (h : GoesOn cfg x r) :
    travelStepEnds cfg x = false := by
  simp [travelStepEnds, h.termination ht]

theorem travelStepEnds_between {cfg : DoorSettings} {x : Door} {τ : Nat} (hτ : x.travelTimer = some τ) (hs : τ % 100 ≠ 0) :
    travelStepEnds cfg x = false := by
  simp [travelStepEnds, atStep, hτ, hs]

theorem tickFan_levels (x : Fan) : (tickFan x).tach.pin = x.tach.pin ∧ (tickFan x).tach.level = x.tach.level := by
  unfold tickFan tickTach
  dsimp only
  split <;> split <;> exact ⟨rfl, rfl⟩

/-- The idle step moves every timer and takes what is due, and touches nothing else (R169). -/
theorem tick_idles (s : State) : Idles { s with reports := { s.reports with timeBase := s.reports.timeBase + 1 } } (tick s) := by
  have advanced : Idles { s with reports := { s.reports with timeBase := s.reports.timeBase + 1 } } (advanceTimers s) := {}
  exact advanced.trans (.takeInAnyOrder expiryTake_idles ..)

/-- Settles O2: the empty queue runs `tick`, whose expiries are those of the timers advanced. -/
theorem idleStepPassesOneMillisecond : Obligations.IdleStepPassesOneMillisecond := by
  refine ⟨fun s hs => ?_, fun s e hs hd => ⟨?_, ?_⟩, fun s d r => ?_⟩
  · have idles := tick_idles s
    refine ⟨tick s, step_idle hs, idles.timeBase, idles.line, idles.store, idles.channels, idles.demand, idles.pending.trans hs,
      ⟨_, arrange_perm _ _, tick_eq s⟩, fun quiet => ?_⟩
    rw [tick_quiet quiet]
    refine ⟨rfl, fun f => (tickModes_delays s.modes f).trans ?_, fun f => ?_, fun d => ?_⟩
    · cases (s.modes.delays[f]'f.isLt) <;> rfl
    · have still : (s.fan f).tach.pin = (s.fan f).tach.level := by
        have noEdge := quiet (.edge f)
        simp only [Expiry.due, advanceTimers_fan, bne_eq_false_iff_eq, tickFan_levels] at noEdge
        exact noEdge
      exact (advanceTimers_fan s f).trans (tickFan_quiet still)
    · exact (advanceTimers_door s d).trans (tickDoor_eq ..)
  · have single := (step_idle hs).trans (congrArg Host.Outcome.next (tick_single hd))
    refine ⟨fun i hi => single.trans (exec_row (by rw [hd]; exact decide_eq_true rfl) hi).symm, ?_⟩
    intro d τ r x cfg hτ ht hdir hc
    refine ⟨?_, ?_⟩
    · rintro rfl
      obtain ⟨frame, others, reported, moves⟩ := reliefEnds (o := .timeout) hτ ht hdir hc
      exact ⟨_, single, frame, others, reported, relieved_timeout r ▸ moves⟩
    · rintro rfl
      obtain ⟨frame, others, reported, moves⟩ := reliefEnds (o := .blind) hτ ht hdir hc
      exact ⟨_, single, frame, others, reported, relieved_blind r ▸ moves⟩
  · have single := (step_idle hs).trans (congrArg Host.Outcome.next (tick_single hd))
    intro d r later x he ht hm
    subst he
    obtain ⟨reported, rests⟩ := testTravel_targetMet ht hm
    exact ⟨_, single, (testTravel_oneDoor d later).frame, (testTravel_oneDoor d later).others, reported,
      (testsFor_stays 6 false false d later).position, rests⟩
  · intro x due ht
    exact ⟨fun τ hτ hs h => travelStepEnds_of_met ht hτ hs h, fun h => travelStepEnds_of_goesOn ht h,
      fun τ hτ hs => travelStepEnds_between hτ hs⟩

end Sys2Proof.Machine
end

section
/-! The arrival of an escape request at a door, by its state (R98, R105, R106), and door policies (R104, R107, R109, R139). -/

namespace Sys2Proof.Machine

/-! ### The request taken into the set (R83, R105) -/

/-- The source is in the door's set and reported, urgency reviewed; nothing done at the door yet. -/
def requested (d : Fin 2) (src : EscapeSource) (s : State) : State :=
  reviewUrgency (report (doorUnit d) (.doorRequest src)
    (s.withDoor d { s.door d with escape := (s.door d).escape.put true src }))

theorem requested_oneDoor (d : Fin 2) (src : EscapeSource) (s : State) : OneDoor d s (requested d src s) :=
  ((OneDoor.withDoor d _ s).trans (.report ..)).trans (.fan (reviewUrgency_frame _))

theorem requested_door (d : Fin 2) (src : EscapeSource) (s : State) :
    (requested d src s).door d = { s.door d with escape := (s.door d).escape.put true src } := by
  rw [requested, (reviewUrgency_frame _).door, report_door, State.withDoor_door_self]

theorem requested_reported (d : Fin 2) (src : EscapeSource) (s : State) :
    FirstReport s (requested d src s) (doorUnit d) (.doorRequest src) := (reviewUrgency_frame _).queued

theorem requested_cfg (d : Fin 2) (src : EscapeSource) (s : State) (e : Fin 2) : (requested d src s).doorCfg e = s.doorCfg e := by
  simp only [State.doorCfg, (requested_oneDoor d src s).frame.store]

theorem requested_relieving (d : Fin 2) (src : EscapeSource) (s : State) :
    someDoorRelieving (requested d src s) = someDoorRelieving s := someDoorRelieving_congr fun e => by
  by_cases he : e = d
  · rw [he, requested_door]
  · rw [(requested_oneDoor d src s).others e he]

theorem putSource_door (d : Fin 2) (b : Bool) (src : EscapeSource) (s : State) :
    (putSource d b src s).door d = { s.door d with escape := (s.door d).escape.put b src }.dropReopen := by
  rw [putSource, (reviewUrgency_frame _).door, State.withDoor_door_self]

theorem arrive_inactive {d : Fin 2} {src : EscapeSource} {s : State} (h : (s.door d).state = .inactive) : arrive d src s = s :=
  if_pos h

theorem arrive_closed {d : Fin 2} {src : EscapeSource} {s : State} (h : (s.door d).state ≠ .inactive)
    (ho : (s.door d).state ≠ .isOpen) : arrive d src s = escapeActs d (requested d src s) := by
  have shut : ((s.door d).state == DoorState.isOpen && src.momentary) = false := by simp [ho]
  exact (if_neg h).trans (if_neg (by simp [shut]))

theorem arrive_open {d : Fin 2} {src : EscapeSource} {s : State} (h : (s.door d).state = .isOpen) : arrive d src s =
    if src.momentary then putSource d false src (escapeActs d (requested d src s)) else escapeActs d (requested d src s) := by
  have other : (s.door d).state ≠ .inactive := by rw [h]; nofun
  exact (if_neg other).trans (by simp [h, requested])

theorem arrive_after (d : Fin 2) (src : EscapeSource) {s : State} (h : (s.door d).state ≠ .inactive) :
    OneDoor d (requested d src s) (arrive d src s) := by
  by_cases ho : (s.door d).state = .isOpen
  · rw [arrive_open ho]
    split
    · exact (escapeActs_oneDoor ..).trans (putSource_oneDoor ..)
    · exact escapeActs_oneDoor ..
  · rw [arrive_closed h ho]
    exact escapeActs_oneDoor ..

/-! ### What the request does, by the door's state (R106) -/

/-- The escape travel becomes current in the place of the door's travel. -/
theorem abortToEscape_door (d : Fin 2) (s : State) :
    (abortToEscape d s).door d = { s.door d with slot := none }.makeCurrent (s.doorCfg d) escapeTravel := by
  unfold abortToEscape
  dsimp only
  split <;> simp [clearSlot]

theorem abortToEscape_reported {d : Fin 2} {s : State} {r : Travel} (h : (s.door d).travel = some r) :
    FirstReport s (abortToEscape d s) (doorUnit d) (.doorDone r.dir .aborted (s.door d).position r.forced) := by
  simp only [abortToEscape, h]
  exact .refl _

theorem escapeActs_starts {d : Fin 2} {s : State} (h : (s.door d).state = .closedLocked ∨ (s.door d).state = .closed ∨
    (s.door d).state = .halted ∨ (s.door d).state = .unhomed ∨ (s.door d).state = .fault) :
    escapeActs d s = startTravel d escapeTravel s := by
  obtain h | h | h | h | h := h <;> simp only [escapeActs, h]

/-- A travel that is not a HOLD travel meets no condition while the motor is off (R99). -/
theorem termination_off {cfg : DoorSettings} {x : Door} {r : Travel} {edge : Bool} (ht : x.travel = some r)
    (hs : (x.motorOpen || x.motorClose) = false) (hm : r.mode ≠ .hold) : x.termination cfg edge = none := by
  simp [Door.termination, ht, hs, hm]

theorem escapeActs_unlocks {d : Fin 2} {s : State} (h : (s.door d).state = .closedLocked) :
    let y := (escapeActs d s).door d
    y.state = .unlocking ∧ y.settle = some 0 ∧ y.travel = some (currentEscape (s.doorCfg d)) ∧ y.escape = (s.door d).escape ∧
      y.recloseSuspended = false := by
  rw [escapeActs_starts (.inl h), startTravel, testStart, beginTravel_unlocks h, Door.raised_escapeTravel]
  rw [testsFor_goesOn]
  · rw [enterDoor_door, State.withDoor_door_self, setCurrent_door]
    exact ⟨rfl, rfl, rfl, rfl, by simp [Door.entered, Door.startHold, Door.dropReopen, Door.makeCurrent, escapeTravel]⟩
  · rw [enterDoor_door, State.withDoor_door_self, setCurrent_door]
    exact termination_off (r := currentEscape (s.doorCfg d)) rfl rfl nofun
  · exact nofun

theorem startsAtOnce_escapes {cfg : DoorSettings} {x : Door}
    (h : x.state = .unhomed ∨ x.state = .fault ∨ (x.state = .halted ∧ x.atZero cfg = false)) :
    StartsAtOnce cfg x escapeTravel := by
  have reason : (becomesCurrent cfg x escapeTravel).reason = .escape := by
    rw [becomesCurrent_escapeTravel]
    rfl
  obtain h | h | ⟨h, zero⟩ := h
  · exact ⟨by rw [h]; nofun, fun _ => reason, by simp [checksPressure, h]⟩
  · exact ⟨by rw [h]; nofun, fun _ => reason, by simp [checksPressure, h]⟩
  · exact ⟨by rw [h]; nofun, fun _ => reason, by simp [checksPressure, h, zero]⟩

/-- A closing that an escape request reverses: the aborted travel's place taken, and the motor on (R98, R106). -/
theorem escapeActs_reverses {d : Fin 2} {x : Door} {s : State} (k : StandsAs x (s.door d)) (h : x.state = .closing)
    (hc : ClearToOpen (s.doorCfg d) x (currentEscape (s.doorCfg d))) :
    escapeActs d s = runMotor d .toOpen (abortToEscape d s) ∧
      MovesOn (s.doorCfg d) x ((escapeActs d s).door d) (currentEscape (s.doorCfg d)) := by
  have acts : escapeActs d s = testStart d (runMotor d .toOpen (abortToEscape d s)) := by
    simp only [escapeActs, k.state, h]
  have cfg : (abortToEscape d s).doorCfg d = s.doorCfg d := by
    simp only [State.doorCfg, (abortToEscape_oneDoor d s).frame.store]
  obtain ⟨tested, moves⟩ := runMotor_tested (u := abortToEscape d s) (t := currentEscape (s.doorCfg d)) (x := x)
    (by rw [abortToEscape_door]; exact k.toAsBefore.trans {}) (by rw [abortToEscape_door]; rfl)
    (.of_opens rfl (by rwa [cfg])) 5 true false
  rw [cfg] at moves
  rw [acts, testStart, show DoorDir.toOpen = (currentEscape (s.doorCfg d)).dir from rfl, tested]
  exact ⟨rfl, moves⟩

theorem escapeActs_moves {d : Fin 2} {x : Door} {s : State} (k : StandsAs x (s.door d))
    (h : x.state = .closing ∨ x.state = .unhomed ∨ x.state = .fault ∨ (x.state = .halted ∧ x.atZero (s.doorCfg d) = false))
    (hc : ClearToOpen (s.doorCfg d) x (currentEscape (s.doorCfg d))) :
    MovesOn (s.doorCfg d) x ((escapeActs d s).door d) (currentEscape (s.doorCfg d)) := by
  obtain closing | others := h
  · exact (escapeActs_reverses k closing hc).2
  · have acts : escapeActs d s = startTravel d escapeTravel s := escapeActs_starts (by
      rw [k.state]
      obtain h | h | ⟨h, _⟩ := others <;> simp [h])
    have moves := beginTravel_moves k (startsAtOnce_escapes others)
      (.of_opens (by rw [becomesCurrent_dir]; rfl) (by rwa [becomesCurrent_escapeTravel])) 5 true false
    rw [becomesCurrent_escapeTravel] at moves
    rw [acts, startTravel, testStart, moves.1]
    exact moves.2

/-- The arrival of an escape request in OPEN (R104, R107). -/
theorem escapeActs_open {d : Fin 2} {s : State} (h : (s.door d).state = .isOpen) :
    escapeActs d s = s.withDoor d { (s.door d).startHold (s.doorCfg d) with reopen := none } := by
  simp only [escapeActs, h]

theorem startHold_eq {cfg : DoorSettings} {x : Door} (h : x.state = .isOpen) :
    (x.startHold cfg).holdOpen = holdFor cfg x x.escape := by
  have may : x.mayReclose cfg = true ↔ cfg.autoReclose = true ∧ x.escape.escapeLine = false ∧ x.escape.scenario = false ∧
      x.recloseSuspended = false := by
    simp [Door.mayReclose, Door.holdingReason, h, and_assoc]
  exact if_congr may rfl rfl

theorem EscapeSet.put_put (e : EscapeSet) (a b : Bool) (src : EscapeSource) : (e.put a src).put b src = e.put b src := by
  cases src <;> rfl

/-- A request that arrives in OPEN is held or, with its source momentary, consumed (R105, R107). -/
theorem restsOpen {cfg : DoorSettings} {d : Fin 2} {x : Door} (h : x.state = .isOpen) (src : EscapeSource) (u : State) :
    let y : Door := { ({ x with escape := x.escape.put true src } : Door).startHold cfg with reopen := none }
    let t := if src.momentary then putSource d false src (u.withDoor d y) else u.withDoor d y
    (t.door d).state = .isOpen ∧ (t.door d).travel = x.travel ∧ (t.door d).escape = x.escape.put (!src.momentary) src ∧
      (t.door d).holdOpen = holdFor cfg x (x.escape.put true src) ∧ (t.door d).reopen = none := by
  intro y t
  have hold : y.holdOpen = holdFor cfg x (x.escape.put true src) := startHold_eq h
  cases hm : src.momentary
  · simp only [t, hm, Bool.false_eq_true, if_false, State.withDoor_door_self]
    exact ⟨h, rfl, rfl, hold, rfl⟩
  · simp only [t, hm, if_true, putSource_door, State.withDoor_door_self]
    refine ⟨h, rfl, EscapeSet.put_put .., hold, ?_⟩
    exact ite_self _

/-- A door travelling to open takes the request as the raise of its travel (R96, R106). -/
theorem escapeActs_raises {d : Fin 2} {s : State} (h : (s.door d).state = .relieving ∨ (s.door d).state = .opening ∨
    ((s.door d).state = .unlocking ∧ ∀ r, (s.door d).travel = some r → r.dir = .toOpen)) :
    (escapeActs d s).door d =
      { s.door d with slot := none, travel := (s.door d).travel.map (raisedTravel (s.doorCfg d)) } := by
  have acts : escapeActs d s = raiseCurrent d s := by
    obtain h | h | ⟨h, opens⟩ := h
    · simp only [escapeActs, h]
    · simp only [escapeActs, h]
    · have open' : ((s.door d).travel.any fun t => t.dir == .toClose) = false := by
        rw [Option.any_eq_false]
        intro r hr
        simp [opens r hr]
      simp only [escapeActs, h, open', Bool.false_eq_true, if_false]
  rw [acts, raiseCurrent, State.withDoor_door_self]
  rfl

/-- A door unlocking for a closing turns to the escape travel (R98). -/
theorem escapeActs_turns {d : Fin 2} {s : State} {r : Travel} (h : (s.door d).state = .unlocking)
    (ht : (s.door d).travel = some r) (hd : r.dir = .toClose) : escapeActs d s = abortToEscape d s := by
  simp [escapeActs, h, ht, hd]

/-- What the arrival of a source does at a door, in every state (R98, R105, R106). -/
theorem arrive_arrives (d : Fin 2) (src : EscapeSource) (s : State) : EscapeArrives d src s (arrive d src s) := by
  have door := requested_door d src s
  have cfg := requested_cfg d src s d
  have shut (hs : (s.door d).state ≠ .inactive) (ho : (s.door d).state ≠ .isOpen) := arrive_closed (src := src) hs ho
  have stands : StandsAs { s.door d with escape := (s.door d).escape.put true src } ((requested d src s).door d) := by
    rw [door]
    exact {}
  refine ⟨arrive_inactive, fun hs => ?_, (arrive_oneDoor d src s).frame, (arrive_oneDoor d src s).others, fun hs => ?_,
    fun hs => ?_, fun r hs ht hd => ?_, fun hs => ?_, fun hs hc => ?_, fun r hs ht clear => ?_, fun hs => ?_⟩
  · exact (requested_reported d src s).trans (arrive_after d src hs).frame.queued
  · have acts := escapeActs_unlocks (s := requested d src s) (d := d) (by rw [door]; exact hs)
    rw [door, cfg] at acts
    rw [shut (by rw [hs]; nofun) (by rw [hs]; nofun)]
    exact acts
  · have acts := escapeActs_raises (s := requested d src s) (d := d) (by rw [door]; exact hs)
    rw [door, cfg] at acts
    have moving : (s.door d).state ≠ .inactive ∧ (s.door d).state ≠ .isOpen := by
      obtain h | h | ⟨h, _⟩ := hs <;> rw [h] <;> exact ⟨nofun, nofun⟩
    rw [shut moving.1 moving.2, acts]
  · have hr : ((requested d src s).door d).travel = some r := by rw [door]; exact ht
    have acts := escapeActs_turns (s := requested d src s) (by rw [door]; exact hs) hr hd
    have aborted := abortToEscape_reported hr
    rw [door, hd] at aborted
    rw [shut (by rw [hs]; nofun) (by rw [hs]; nofun), acts, abortToEscape_door, door, cfg]
    exact ⟨hs, rfl, rfl, rfl, ⟨_, (requested_oneDoor d src s).frame.queued, aborted⟩⟩
  · have acts := escapeActs_open (s := requested d src s) (d := d) (by rw [door]; exact hs)
    rw [door, cfg] at acts
    rw [arrive_open hs, acts]
    exact restsOpen hs src _
  · have moves := escapeActs_moves stands (by
      rw [cfg]
      exact hs) (by rw [cfg]; exact hc)
    have shutState : (s.door d).state ≠ .inactive ∧ (s.door d).state ≠ .isOpen := by
      obtain h | h | h | ⟨h, _⟩ := hs <;> rw [h] <;> exact ⟨nofun, nofun⟩
    rw [shut shutState.1 shutState.2, ← cfg]
    exact moves
  · have acts := escapeActs_reverses stands hs (by rw [cfg]; exact clear)
    have aborted := abortToEscape_reported (d := d) (s := requested d src s) (r := r) (by rw [door]; exact ht)
    rw [door] at aborted
    rw [shut (by rw [hs]; nofun) (by rw [hs]; nofun), acts.1]
    refine ⟨?_, _, (requested_oneDoor d src s).frame.queued, aborted.trans (runMotor_oneDoor ..).frame.queued⟩
    rw [runMotor_door, abortToEscape_door]
    rfl
  · have closed : (s.door d).state ≠ .inactive ∧ (s.door d).state ≠ .isOpen ∧
        ((s.door d).state = .closed ∨ (s.door d).state = .halted) := by
      obtain h | ⟨h, _⟩ := hs <;> rw [h] <;> exact ⟨nofun, nofun, by simp⟩
    have acts : escapeActs d (requested d src s) = startTravel d escapeTravel (requested d src s) := escapeActs_starts (by
      rw [door]
      exact closed.2.2.elim (fun h => .inr (.inl h)) fun h => .inr (.inr (.inl h)))
    have checked := beginTravel_checked (t := escapeTravel) (requested_oneDoor d src s).frame
      (fun h => (requested_relieving d src s).trans h) stands (by rw [cfg]; exact hs) rfl 5 true false
    rw [becomesCurrent_escapeTravel, cfg] at checked
    rw [shut closed.1 closed.2.1, acts]
    exact checked

end Sys2Proof.Machine
end

section
/-! What an event that is not fan `f`'s own does to that fan: nothing, or what the feed arbiter gives it or takes from it. Behind a
changed door the pressurisation fan takes a new target too (R126). -/

namespace Sys2Proof.Machine

/-! ### What concerns one fan -/

/-- What concerns fan `f` is as it was: the fan, its places with the arbiter, whether INCIDENT holds, and STOP. -/
structure Beside (f : Fin 4) (s t : State) : Prop where
  fan : t.fan f = s.fan f
  waiting : t.arbiter.waiting[f]'f.isLt = s.arbiter.waiting[f]'f.isLt
  holders : f ∈ t.arbiter.holders ↔ f ∈ s.arbiter.holders
  suspended : f ∈ t.arbiter.suspended ↔ f ∈ s.arbiter.suspended
  incident : t.incident = s.incident
  stop : t.stop = s.stop

theorem Beside.refl (f : Fin 4) (s : State) : Beside f s s := ⟨rfl, rfl, .rfl, .rfl, rfl, rfl⟩

theorem At.beside {f g : Fin 4} {s t : State} (h : At g s t) (hg : f ≠ g) : Beside f s t :=
  ⟨h.fans f hg, h.waiting f hg, h.holders f hg, h.suspended f hg, h.frame.incident, h.frame.stop⟩

theorem granting_beside {f g : Fin 4} (s : State) (hg : f ≠ g) : Beside f s (granting g s) where
  fan := granting_fan_of_ne s hg
  waiting := by
    have : (g : Nat) ≠ f := fun e => hg (Fin.ext e.symm)
    simp [granting_arbiter, Arbiter.granted, this]
  holders := by simp [granting_arbiter, Arbiter.granted, hg]
  suspended := by simp [granting_arbiter, Arbiter.granted, hg]
  incident := (granting_frame g s).incident
  stop := (granting_frame g s).stop

theorem suspend_beside {f g : Fin 4} (s : State) (hg : f ≠ g) : Beside f s (suspend g s) where
  fan := suspend_fan_of_ne s hg
  waiting := rfl
  holders := by simp [suspend, hg]
  suspended := by simp [suspend, hg]
  incident := rfl
  stop := rfl

theorem Unserved.beside {f : Fin 4} {s t : State} (h : Unserved s f) (k : Beside f s t) : Unserved t f :=
  ⟨fun m => h.1 (k.holders.mp m), k.waiting.trans h.2.1, fun m => h.2.2 (k.suspended.mp m)⟩

/-! ### What happens to one fan -/

/-- From `s` to `t` nothing happened to fan `f` but grants and suspensions, the start-phase tests behind them, and, where `own` holds,
new targets and clamped references. -/
inductive Tracks (f : Fin 4) (own : Prop) (s : State) : State → Prop
  | refl : Tracks f own s s
  | beside {u v : State} (r : Tracks f own s u) (h : Beside f u v) : Tracks f own s v
  | granted {u : State} (r : Tracks f own s u) (h : listed u f = true) : Tracks f own s (granting f u)
  | suspended {u : State} (r : Tracks f own s u) (h : f ∈ u.arbiter.holders) : Tracks f own s (suspend f u)
  | tested {u : State} (r : Tracks f own s u) : Tracks f own s (startPhaseTest f u)
  | wished {u : State} (r : Tracks f own s u) (o : own) (m : Target) :
    Tracks f own s (u.withFan f { u.fan f with modeTarget := m })
  | retargeted {u : State} (r : Tracks f own s u) (o : own) (t : Target) : Tracks f own s (takeTarget f t u)
  | clamped {u : State} (r : Tracks f own s u) (o : own) : Tracks f own s (clampReference f u)

theorem Beside.tracks {f : Fin 4} {own : Prop} {s t : State} (h : Beside f s t) : Tracks f own s t := .beside .refl h

theorem Tracks.trans {f : Fin 4} {own own' : Prop} {s t u : State} (a : Tracks f own s t) (b : Tracks f own' t u)
    (h : own' → own) : Tracks f own s u := by
  induction b with
  | refl => exact a
  | beside _ k ih => exact ih.beside k
  | granted _ k ih => exact ih.granted k
  | suspended _ k ih => exact ih.suspended k
  | tested _ ih => exact ih.tested
  | wished _ o m ih => exact ih.wished (h o) m
  | retargeted _ o t ih => exact ih.retargeted (h o) t
  | clamped _ o ih => exact ih.clamped (h o)

theorem Tracks.mono {f : Fin 4} {own own' : Prop} {s t : State} (a : Tracks f own' s t) (h : own' → own) : Tracks f own s t :=
  Tracks.refl.trans a h

/-- A fact about fan `f` that all of this keeps. -/
structure Invariant (f : Fin 4) (own : Prop) (P : State → Prop) : Prop where
  beside : ∀ u v, Beside f u v → P u → P v
  granted : ∀ u, listed u f = true → P u → P (granting f u)
  suspended : ∀ u, f ∈ u.arbiter.holders → P u → P (suspend f u)
  tested : ∀ u, P u → P (startPhaseTest f u)
  wished : own → ∀ u m, P u → P (u.withFan f { u.fan f with modeTarget := m })
  retargeted : own → ∀ u t, P u → P (takeTarget f t u)
  clamped : own → ∀ u, P u → P (clampReference f u)

theorem Tracks.keeps {f : Fin 4} {own : Prop} {P : State → Prop} {s t : State} (h : Tracks f own s t) (k : Invariant f own P)
    (hs : P s) : P t := by
  induction h with
  | refl => exact hs
  | beside _ h ih => exact k.beside _ _ h ih
  | granted _ h ih => exact k.granted _ h ih
  | suspended _ h ih => exact k.suspended _ h ih
  | tested _ ih => exact k.tested _ ih
  | wished _ o m ih => exact k.wished o _ m ih
  | retargeted _ o t ih => exact k.retargeted o _ t ih
  | clamped _ o ih => exact k.clamped o _ ih

/-! ### The arbiter, the targets and the doors -/

theorem Tracks.grant {f : Fin 4} {own : Prop} {s u : State} (r : Tracks f own s u) {g : Fin 4} (h : listed u g = true) :
    Tracks f own s (grant g u) := by
  by_cases hg : f = g
  · subst hg
    obtain same | same := grant_cases f u <;> rw [same]
    · exact r.granted h
    · exact (r.granted h).tested
  · exact (r.beside (granting_beside u hg)).beside ((grant_at g u).beside hg)

theorem Tracks.serve {f : Fin 4} {own : Prop} {s u : State} (r : Tracks f own s u) : Tracks f own s (serve u) := by
  refine serve_rel (fun u v => Tracks f own s u → Tracks f own s v) (fun _ => id) (fun _ _ _ a b => b ∘ a) (fun u v once r => ?_) u r
  obtain ⟨g, listed, _, rfl, _⟩ | ⟨g, h, urgent, last, _, rfl⟩ := serveOnce_cases once
  · exact r.grant listed
  · refine Tracks.grant ?_ (suspend_listed (urgentRequest_eq_some.mp urgent).2.2)
    by_cases hh : f = h
    · subst hh
      exact r.suspended (List.mem_of_getLast? last)
    · exact r.beside (suspend_beside u hh)

theorem At.tracks {f g : Fin 4} {own : Prop} {s t : State} (h : At g s t) (hg : f ≠ g) : Tracks f own s (serve t) :=
  (h.beside hg).tracks.serve

theorem reportFanChange_beside (f g : Fin 4) (b : FanState) (c : FanCause) (s : State) : Beside f s (reportFanChange b g c s) := by
  have frame := reportFanChange_frame b g c s
  have arbiter := reportFanChange_arbiter b g c s
  exact ⟨reportFanChange_fan .., by rw [arbiter], by rw [arbiter], by rw [arbiter], frame.incident, frame.stop⟩

theorem targetChange_tracks (f g : Fin 4) (t : Target) (s : State) : Tracks f (g = f) s (targetChange g t s) := by
  by_cases hg : g = f
  · subst hg
    exact (((Tracks.refl.retargeted rfl t).beside (reportFanChange_beside ..)).tested).serve
  · have target : Beside f s (withTarget g t s) := ⟨withTarget_fan_of_ne s (Ne.symm hg), rfl, .rfl, .rfl, rfl, rfl⟩
    exact ((target.tracks.beside ((takeTarget_at g t s).beside (Ne.symm hg))).beside (reportFanChange_beside ..)).beside
      ((startPhaseTest_at g _).beside (Ne.symm hg)) |>.serve

theorem recompose_tracks (f g : Fin 4) (s : State) : Tracks f (g = f) s (recompose g s) := by
  unfold recompose
  split
  · exact .refl
  · exact targetChange_tracks ..

theorem clampIf_tracks (f g : Fin 4) (b : Bool) (s : State) : Tracks f (g = f) s (clampIf b g s) := by
  unfold clampIf
  split
  · by_cases hg : g = f
    · subst hg
      exact Tracks.refl.clamped rfl
    · exact Beside.tracks ⟨s.withFan_fan_of_ne _ (Ne.symm hg), rfl, .rfl, .rfl, rfl, rfl⟩
  · exact .refl

theorem setModeTarget_tracks (f g : Fin 4) (m : Target) (s : State) : Tracks f (g = f) s (setModeTarget g m s) := by
  refine Tracks.trans ?_ (recompose_tracks f g _) id
  by_cases hg : g = f
  · subst hg
    exact Tracks.refl.wished rfl m
  · exact Beside.tracks ⟨s.withFan_fan_of_ne _ (Ne.symm hg), rfl, .rfl, .rfl, rfl, rfl⟩

theorem evaluateUrgency_beside (f : Fin 4) (s : State) : Beside f s (evaluateUrgency s) := ⟨rfl, rfl, .rfl, .rfl, rfl, rfl⟩

/-- Behind a changed door the pressurisation fan alone takes a new target (R114, R126, R127). -/
theorem fanTakesDoorChange_tracks (f : Fin 4) (b : Bool) (s : State) :
    Tracks f (s.ctl.pressFan = some f) s (fanTakesDoorChange b s) := by
  cases hp : s.ctl.pressFan with
  | none =>
    have : fanTakesDoorChange b s = s := by simp [fanTakesDoorChange, hp]
    rw [this]
    exact .refl
  | some g =>
    rw [fanTakesDoorChange_eq hp]
    exact ((clampIf_tracks f g _ s).trans (recompose_tracks f g _) id).mono (congrArg some)

/-- What an event at a door does to one fan. -/
theorem DoorSteps.tracks {s t : State} (h : DoorSteps s t) (f : Fin 4) : Tracks f (s.ctl.pressFan = some f) s t := by
  induction h with
  | refl s => exact .refl
  | written d h => exact Beside.tracks ⟨rfl, rfl, .rfl, .rfl, rfl, rfl⟩
  | entered d x s =>
    have written : Beside f s (evaluateUrgency (s.withDoor d x)) := ⟨rfl, rfl, .rfl, .rfl, rfl, rfl⟩
    exact (written.tracks.trans (fanTakesDoorChange_tracks f (someDoorRelieving s) _) id).serve
  | urgency s => exact (evaluateUrgency_beside f s).tracks.serve
  | report u r s => exact Beside.tracks ⟨rfl, rfl, .rfl, .rfl, rfl, rfl⟩
  | nextChoice s => exact Beside.tracks ⟨rfl, rfl, .rfl, .rfl, rfl, rfl⟩
  | @trans s t u ha _ a b => exact a.trans b fun h => by rwa [ctl_of_store ha.steady.frame.store] at h

theorem nextChoice_beside (f : Fin 4) (s : State) : Beside f s s.nextChoice := ⟨rfl, rfl, .rfl, .rfl, rfl, rfl⟩

theorem Tracks.takeInAnyOrder {α : Type} {f : Fin 4} {own : Prop} {act : α → State → State} (l : List α)
    (each : ∀ x s, Tracks f own s (act x s)) (s : State) : Tracks f own s (takeInAnyOrder l act s) :=
  takeInAnyOrder_rel (Tracks f own) (fun _ => .refl) (fun _ _ _ a b => a.trans b id) (fun s => (nextChoice_beside f s).tracks) act
    each l s

end Sys2Proof.Machine
end

section
/-! What grants, suspensions and new targets leave of one fan: its places with the arbiter, a lockout, a fan just cleared. -/

namespace Sys2Proof.Machine

/-! ### What a new target can do -/

/-- The record that a fan keeps through every new target that does not trip it. -/
structure SameRecord (x y : Fan) : Prop where
  faultInput : y.faultInput = x.faultInput := by rfl
  held : y.held = x.held := by rfl
  tripCount : y.tripCount = x.tripCount := by rfl
  lastTrip : y.lastTrip = x.lastTrip := by rfl
  lockoutMemory : y.lockoutMemory = x.lockoutMemory := by rfl

/-- A new target taken: the fan stays where it is or runs again from STOPPING; leaves the arbiter; or, in OFF, trips or asks for a
grant (R47 to R51, R53, R55 to R57, R80). -/
inductive Retaken (f : Fin 4) (s t : State) : Prop
  | stays (arbiter : t.arbiter = s.arbiter) (record : SameRecord (s.fan f) (t.fan f))
      (credit : (t.fan f).creditWait = (s.fan f).creditWait)
      (state : (t.fan f).state = (s.fan f).state ∨ ((s.fan f).state = .stopping ∧ (t.fan f).state = .running))
  | leaves (free : Unserved t f) (record : SameRecord (s.fan f) (t.fan f)) (credit : (t.fan f).creditWait = false)
      (was : (s.fan f).state = .running ∨ (s.fan f).state = .starting ∨ (s.fan f).state = .awaitGrant)
      (state : (t.fan f).state = .off ∨ (t.fan f).state = .stopping ∨ (t.fan f).state = .coasting)
  | trips (was : (s.fan f).state = .off) (fault : (s.fan f).faultInput = true) (free : Unserved t f)
      (fan : ∃ x, SameRecord (s.fan f) x ∧ t.fan f = x.afterTrip .driveFault)
  | joins (was : (s.fan f).state = .off) (fault : (s.fan f).faultInput = false) (record : SameRecord (s.fan f) (t.fan f))
      (arbiter : t.arbiter = { s.arbiter with waiting := s.arbiter.waiting.set f true f.isLt })
      (state : (t.fan f).state = .awaitGrant) (credit : (t.fan f).creditWait = (s.fan f).creditWait)
  | creditless (was : (s.fan f).state = .off) (mode : s.incident = false) (record : SameRecord (s.fan f) (t.fan f))
      (arbiter : t.arbiter = s.arbiter) (state : (t.fan f).state = .awaitGrant) (credit : (t.fan f).creditWait = true)

theorem reapply_retaken {f : Fin 4} {s : State} (h : (s.fan f).state = .off) : Retaken f s (reapply f s) := by
  by_cases wish : Wishes s (s.fan f)
  · rw [reapply_wish h wish]
    by_cases fault : (s.fan f).faultInput = true
    · rw [enterAwait_trips fault]
      exact .trips h fault (trip_unserved ..) ⟨(s.fan f).asking, {}, by rw [trip_fan, State.withFan_fan_self]⟩
    · have clear : (s.fan f).faultInput = false := by simpa using fault
      by_cases join : MayJoin s (s.fan f)
      · rw [enterAwait_joins clear join]
        have fan : (((s.withFan f (s.fan f).asking).withArbiter
            { s.arbiter with waiting := s.arbiter.waiting.set f true f.isLt }).fan f) = (s.fan f).asking := s.withFan_fan_self f _
        refine .joins h clear ?_ rfl ?_ ?_ <;> rw [fan]
        · exact {}
        · rfl
        · rfl
      · rw [enterAwait_creditless clear join]
        refine .creditless h ?_ ?_ rfl ?_ ?_
        · exact Bool.eq_false_iff.mpr fun k => join (.inl (by simpa [State.incident] using k))
        all_goals rw [State.withFan_fan_self]
        · exact {}
        · rfl
  · rw [reapply_noWish wish]
    exact .stays rfl {} rfl (.inl rfl)

/-- A target written before does not matter for what follows. -/
theorem Retaken.of_withTarget {f : Fin 4} {t : Target} {s u : State} (h : Retaken f (withTarget f t s) u) : Retaken f s u := by
  have fan : (withTarget f t s).fan f = { s.fan f with target := t } := withTarget_fan ..
  cases h with
  | stays arbiter record credit state =>
    rw [fan] at record credit state
    exact .stays arbiter ⟨record.1, record.2, record.3, record.4, record.5⟩ credit state
  | leaves free record credit was state =>
    rw [fan] at record was
    exact .leaves free ⟨record.1, record.2, record.3, record.4, record.5⟩ credit was state
  | trips was fault free after =>
    rw [fan] at was fault after
    obtain ⟨x, record, after⟩ := after
    exact .trips was fault free ⟨x, ⟨record.1, record.2, record.3, record.4, record.5⟩, after⟩
  | joins was fault record arbiter state credit =>
    rw [fan] at was fault record credit
    exact .joins was fault ⟨record.1, record.2, record.3, record.4, record.5⟩ arbiter state credit
  | creditless was mode record arbiter state credit =>
    rw [fan] at was record
    exact .creditless was mode ⟨record.1, record.2, record.3, record.4, record.5⟩ arbiter state credit

theorem enterStopping_retaken {f : Fin 4} {s : State}
    (h : (s.fan f).state = .running ∨ (s.fan f).state = .starting) : Retaken f s (enterStopping f s) := by
  have was := h.imp_right (Or.inl (b := (s.fan f).state = .awaitGrant))
  refine .leaves (enterStopping_unserved f s) ?_ ?_ was ?_ <;> rw [enterStopping_fan] <;> split
  · exact {}
  · exact {}
  · rfl
  · rfl
  · exact .inr (.inr rfl)
  · exact .inr (.inl rfl)

theorem enterCoasting_retaken {f : Fin 4} {s : State}
    (h : (s.fan f).state = .running ∨ (s.fan f).state = .starting) : Retaken f s (enterCoasting f s) := by
  have was := h.imp_right (Or.inl (b := (s.fan f).state = .awaitGrant))
  have fan := enterCoasting_fan (running_or_starting_drives h)
  refine .leaves ((leaveArbiter_unserved f s).of_arbiter rfl) ?_ ?_ was ?_ <;> rw [fan]
  · exact {}
  · rfl
  · exact .inr (.inr rfl)

theorem takeTarget_retaken (f : Fin 4) (t : Target) (s : State) : Retaken f s (takeTarget f t s) := by
  have fan : (withTarget f t s).fan f = { s.fan f with target := t } := withTarget_fan ..
  have rests (record : SameRecord (s.fan f) ((withTarget f t s).fan f)) : Retaken f s (withTarget f t s) :=
    .stays rfl record (by rw [fan]) (.inl (by rw [fan]))
  have same : SameRecord (s.fan f) ((withTarget f t s).fan f) := by
    rw [fan]
    exact {}
  have drives (h : (s.fan f).state = .running ∨ (s.fan f).state = .starting) : Retaken f s (takeTarget f t s) := by
    have driving : ((withTarget f t s).fan f).state = .running ∨ ((withTarget f t s).fan f).state = .starting := by rwa [fan]
    by_cases turns : Turns (s.fan f) t
    · by_cases incident : s.modes.mode = .incident
      · by_cases zero : t.speed = 0
        · have stops : takeTarget f t s = enterStopping f (withTarget f t s) := by
            obtain h | h := h <;> simp [takeTarget, h, zero, withTarget]
          rw [stops]
          exact .of_withTarget (enterStopping_retaken driving)
        · rw [takeTarget_reverses h zero (turns.resolve_left zero) incident]
          exact .of_withTarget (enterCoasting_retaken driving)
      · rw [takeTarget_stops h turns incident]
        exact .of_withTarget (enterStopping_retaken driving)
    · rw [takeTarget_goesOn h turns]
      exact rests same
  cases hs : (s.fan f).state with
  | off =>
    have off : takeTarget f t s = reapply f (withTarget f t s) := by simp [takeTarget, hs, withTarget]
    rw [off]
    exact .of_withTarget (reapply_retaken (by rw [fan]; exact hs))
  | awaitGrant =>
    by_cases zero : t.speed = 0
    · have leaves : takeTarget f t s = (leaveArbiter f (withTarget f t s)).withFan f
          (((leaveArbiter f (withTarget f t s)).fan f).outputsOff .off) := by
        simp [takeTarget, hs, zero, withTarget]
      rw [leaves]
      refine .leaves ((leaveArbiter_unserved ..).of_arbiter rfl) ?_ ?_ (.inr (.inr hs)) ?_ <;>
        rw [leaveAndWrite_fan, leaveArbiter_fan, fan]
      · exact {}
      · rfl
      · exact .inl rfl
    · have asks : takeTarget f t s = (withTarget f t s).withFan f { (withTarget f t s).fan f with latched := t.dir } := by
        simp [takeTarget, hs, zero, withTarget]
      rw [asks]
      refine .stays rfl ?_ ?_ (.inl ?_) <;> rw [State.withFan_fan_self, fan]
      exact {}
  | starting => exact drives (.inr hs)
  | running => exact drives (.inl hs)
  | stopping =>
    by_cases turns : Turns (s.fan f) t
    · rw [takeTarget_stopsOn hs turns]
      exact rests same
    · obtain ⟨speed, dir⟩ := not_or.mp turns
      have runs : takeTarget f t s = (withTarget f t s).withFan f
          { (withTarget f t s).fan f with state := .running, verifyTimer := some 0, stallNoted := false } := by
        simp [takeTarget, hs, speed, not_not.mp dir, withTarget]
      rw [runs]
      refine .stays rfl ?_ ?_ (.inr ⟨hs, ?_⟩) <;> rw [State.withFan_fan_self, fan]
      exact {}
  | coasting | tripped | lockedOut | inactive =>
    have still : takeTarget f t s = withTarget f t s := takeTarget_inert (by rw [hs]; simp [Inert])
    rw [still]
    exact rests same

end Sys2Proof.Machine
end

section
/-! What stays true of one fan through grants, suspensions and new targets: its places with the arbiter, no CREDIT_WAIT in INCIDENT,
a lockout, the record of a fan just cleared, its request. -/

namespace Sys2Proof.Machine

/-! ### Grants and start-phase tests at the fan -/

theorem granting_given (f : Fin 4) (s : State) : ((granting f s).fan f).creditWait = (s.fan f).creditWait ∧
    ((f ∈ s.arbiter.suspended ∧ ((granting f s).fan f).state = (s.fan f).state) ∨
      (f ∉ s.arbiter.suspended ∧ ((granting f s).fan f).state = .starting)) := by
  by_cases h : f ∈ s.arbiter.suspended
  · have given : granting f s = regranted f s := by simp [granting, h]
    simp [given, regranted, h]
  · have given : granting f s = firstGrant f s := by simp [granting, h]
    simp [given, firstGrant, Fan.drawCredit, h]

theorem startPhaseTest_tested (f : Fin 4) (s : State) : startPhaseTest f s = s ∨
    ((s.fan f).state = .starting ∧ Unserved (startPhaseTest f s) f ∧ (startPhaseTest f s).fan f = (s.fan f).afterStart) := by
  by_cases h : startPhaseOver s f = true
  · have ended : startPhaseTest f s = reportFan f .startDone (enterRunning f false s) := if_pos h
    refine .inr ⟨(startPhaseOver_iff.mp h).1, ?_, ?_⟩ <;> rw [ended]
    · exact reportedRunning_unserved ..
    · rw [reportFan_fan, enterRunning_fan]
      rfl
  · exact .inl (if_neg h)

theorem suspend_fan (f : Fin 4) (s : State) : (suspend f s).fan f = { s.fan f with suspended := true } := by
  simp [suspend]

theorem not_listed_lists {f : Fin 4} {s : State} (h : listed s f = true) (hs : f ∉ s.arbiter.suspended) :
    s.arbiter.waiting[f]'f.isLt = true := (listed_iff.mp h).resolve_right hs

theorem Unserved.not_listed {f : Fin 4} {s : State} (h : Unserved s f) (k : listed s f = true) : False :=
  absurd (not_listed_of_unserved h) (by rw [k]; nofun)

/-! ### The places with the arbiter (R80, R84, R90) -/

/-- Fan `f` is on the arbiter's lists as its state has it: a holder or suspended in STARTING alone, waiting or under CREDIT_WAIT in
AWAIT_GRANT; and, where `firm` holds, never both and in no other state. -/
structure Seat (firm : Prop) (f : Fin 4) (s : State) : Prop where
  serves : f ∈ s.arbiter.holders ∨ f ∈ s.arbiter.suspended → (s.fan f).state = .starting
  awaits : (s.fan f).state = .awaitGrant → s.arbiter.waiting[f]'f.isLt = true ∨ (s.fan f).creditWait = true
  waits : firm → s.arbiter.waiting[f]'f.isLt = true → (s.fan f).state = .awaitGrant ∧ (s.fan f).creditWait = false
  credit : firm → (s.fan f).creditWait = true → (s.fan f).state = .awaitGrant

section Seats

variable {firm : Prop} {f : Fin 4} {s t : State}

theorem Seat.of_left (free : Unserved t f) (credit : (t.fan f).creditWait = false) (state : (t.fan f).state ≠ .awaitGrant) :
    Seat firm f t where
  serves h := absurd h (not_or.mpr ⟨free.1, free.2.2⟩)
  awaits h := absurd h state
  waits _ h := absurd (free.2.1.symm.trans h) nofun
  credit _ h := absurd (credit.symm.trans h) nofun

/-- Neither its state nor its places changed, or its state among those that have none. -/
theorem Seat.of_same (h : Seat firm f s) (arbiter : t.arbiter = s.arbiter)
    (credit : (t.fan f).creditWait = (s.fan f).creditWait)
    (state : (t.fan f).state = (s.fan f).state ∨ ((s.fan f).state = .stopping ∧ (t.fan f).state = .running)) : Seat firm f t := by
  obtain same | ⟨was, now⟩ := state
  · constructor <;> rw [same] <;> simp only [arbiter, credit]
    · exact h.serves
    · exact h.awaits
    · exact h.waits
    · exact h.credit
  · constructor <;> rw [now] <;> simp only [arbiter, credit]
    · exact fun k => absurd (was.symm.trans (h.serves k)) nofun
    · exact nofun
    · exact fun o k => absurd (was.symm.trans (h.waits o k).1) nofun
    · exact fun o k => absurd (was.symm.trans (h.credit o k)) nofun

theorem Seat.free (h : Seat firm f s) (hs : (s.fan f).state ≠ .starting) :
    f ∉ s.arbiter.holders ∧ f ∉ s.arbiter.suspended := ⟨fun k => hs (h.serves (.inl k)), fun k => hs (h.serves (.inr k))⟩

theorem Seat.retaken (h : Seat firm f s) (k : Retaken f s t) : Seat firm f t := by
  cases k with
  | stays arbiter _ credit state => exact h.of_same arbiter credit state
  | leaves free _ credit _ state =>
    refine .of_left free credit fun k => ?_
    obtain h | h | h := state <;> exact absurd (k.symm.trans h) nofun
  | trips _ _ free fan =>
    obtain ⟨x, _, fan⟩ := fan
    exact .of_left free (by rw [fan]; rfl) (by rw [fan]; exact nofun)
  | joins was _ _ arbiter state credit =>
    obtain ⟨holds, waits⟩ := h.free (by rw [was]; nofun)
    refine ⟨fun k => ?_, fun _ => .inl (by simp [arbiter]), fun o _ => ⟨state, ?_⟩, fun _ _ => state⟩
    · rw [arbiter] at k
      exact absurd k (not_or.mpr ⟨holds, waits⟩)
    · rw [credit]
      exact Bool.eq_false_iff.mpr fun k => absurd (was.symm.trans (h.credit o k)) nofun
  | creditless was _ _ arbiter state credit =>
    obtain ⟨holds, waits⟩ := h.free (by rw [was]; nofun)
    refine ⟨fun k => ?_, fun _ => .inr credit, fun o k => ?_, fun _ _ => state⟩
    · rw [arbiter] at k
      exact absurd k (not_or.mpr ⟨holds, waits⟩)
    · simp only [arbiter] at k
      exact absurd (was.symm.trans (h.waits o k).1) nofun

end Seats

theorem seat_invariant (firm : Prop) (f : Fin 4) (own : Prop) : Invariant f own (Seat firm f) where
  beside u v k h := by
    constructor <;> simp only [k.fan, k.waiting, k.holders, k.suspended]
    · exact h.serves
    · exact h.awaits
    · exact h.waits
    · exact h.credit
  granted u hl h := by
    obtain ⟨credit, ⟨suspended, state⟩ | ⟨suspended, state⟩⟩ := granting_given f u
    all_goals
      have starts : ((granting f u).fan f).state = .starting := by simp [state, h.serves, suspended]
      refine ⟨fun _ => starts, fun k => absurd (starts.symm.trans k) nofun, fun _ k => ?_, fun o k => ?_⟩
      · simp [granting_arbiter, Arbiter.granted] at k
    · rw [credit] at k
      exact absurd ((h.serves (.inr suspended)).symm.trans (h.credit o k)) nofun
    · rw [credit] at k
      exact absurd ((h.waits o (not_listed_lists hl suspended)).2.symm.trans k) nofun
  suspended u hh h := by
    have starts : ((suspend f u).fan f).state = .starting := by rw [suspend_fan]; exact h.serves (.inl hh)
    refine ⟨fun _ => starts, fun k => absurd (starts.symm.trans k) nofun, fun o k => ?_, fun o k => ?_⟩
    · exact absurd ((h.serves (.inl hh)).symm.trans (h.waits o k).1) nofun
    · rw [suspend_fan] at k
      exact absurd ((h.serves (.inl hh)).symm.trans (h.credit o k)) nofun
  tested u h := by
    obtain same | ⟨_, free, fan⟩ := startPhaseTest_tested f u
    · rwa [same]
    · exact .of_left free (by rw [fan]; rfl) (by rw [fan]; exact nofun)
  wished _ u m h := h.of_same rfl (by rw [State.withFan_fan_self]) (.inl (by rw [State.withFan_fan_self]))
  retargeted _ u t h := h.retaken (takeTarget_retaken f t u)
  clamped _ u h := h.of_same rfl (by rw [clampReference, State.withFan_fan_self])
    (.inl (by rw [clampReference, State.withFan_fan_self]))

/-! ### No CREDIT_WAIT in INCIDENT (R90) -/

def NoCreditWait (f : Fin 4) (s : State) : Prop := s.incident = true ∧ (s.fan f).creditWait = false

theorem NoCreditWait.retaken {f : Fin 4} {s t : State} (h : NoCreditWait f s) (mode : t.incident = s.incident)
    (k : Retaken f s t) : NoCreditWait f t := by
  refine ⟨mode.trans h.1, ?_⟩
  cases k with
  | stays _ _ credit _ => exact credit.trans h.2
  | leaves _ _ credit _ _ => exact credit
  | trips _ _ _ fan =>
    obtain ⟨x, _, fan⟩ := fan
    rw [fan]
    rfl
  | joins _ _ _ _ _ credit => exact credit.trans h.2
  | creditless _ mode _ _ _ _ => exact absurd (h.1.symm.trans mode) nofun

theorem takeTarget_incident (f : Fin 4) (t : Target) (s : State) : (takeTarget f t s).incident = s.incident :=
  (takeTarget_at f t s).frame.incident

theorem noCreditWait_invariant (f : Fin 4) (own : Prop) : Invariant f own (NoCreditWait f) where
  beside u v k h := ⟨k.incident.trans h.1, by rw [k.fan]; exact h.2⟩
  granted u _ h := ⟨(granting_frame f u).incident.trans h.1, (granting_given f u).1.trans h.2⟩
  suspended u _ h := ⟨h.1, by rw [suspend_fan]; exact h.2⟩
  tested u h := by
    obtain same | ⟨_, _, fan⟩ := startPhaseTest_tested f u
    · rwa [same]
    · exact ⟨(startPhaseTest_at f u).frame.incident.trans h.1, by rw [fan]; rfl⟩
  wished _ u m h := ⟨h.1, by rw [State.withFan_fan_self]; exact h.2⟩
  retargeted _ u t h := h.retaken (takeTarget_incident f t u) (takeTarget_retaken f t u)
  clamped _ u h := ⟨h.1, by rw [clampReference, State.withFan_fan_self]; exact h.2⟩

/-! ### A fan that the arbiter knows nothing of -/

/-- The fan is locked out, asks for nothing, and is as it was in `s` but for its targets and its reference. -/
structure StaysLocked (f : Fin 4) (s u : State) : Prop where
  state : (u.fan f).state = .lockedOut
  free : Unserved u f
  credit : (u.fan f).creditWait = false
  faultInput : (u.fan f).faultInput = (s.fan f).faultInput
  held : (u.fan f).held = (s.fan f).held
  incident : u.incident = s.incident
  stop : u.stop = s.stop

theorem staysLocked_invariant (f : Fin 4) (s : State) (own : Prop) : Invariant f own (StaysLocked f s) where
  beside u v k h := by
    refine ⟨?_, h.free.beside k, ?_, ?_, ?_, k.incident.trans h.incident, k.stop.trans h.stop⟩ <;> rw [k.fan]
    exacts [h.state, h.credit, h.faultInput, h.held]
  granted u k h := (h.free.not_listed k).elim
  suspended u k h := absurd k h.free.1
  tested u h := by rwa [startPhaseTest_of_ne (by rw [h.state]; nofun)]
  wished _ u m h := by
    refine ⟨?_, h.free.of_arbiter rfl, ?_, ?_, ?_, h.incident, h.stop⟩ <;> rw [State.withFan_fan_self]
    exacts [h.state, h.credit, h.faultInput, h.held]
  retargeted _ u t h := by
    rw [takeTarget_inert (.inr (.inr (.inl h.state)))]
    refine ⟨?_, h.free.of_arbiter rfl, ?_, ?_, ?_, h.incident, h.stop⟩ <;> rw [withTarget_fan]
    exacts [h.state, h.credit, h.faultInput, h.held]
  clamped _ u h := by
    refine ⟨?_, h.free.of_arbiter rfl, ?_, ?_, ?_, h.incident, h.stop⟩ <;> rw [clampReference, State.withFan_fan_self]
    exacts [h.state, h.credit, h.faultInput, h.held]

/-- A fan out of the arbiter, and not in STARTING, stays as it is through what is not its own. -/
theorem alone_invariant {f : Fin 4} {x : Fan} (hx : x.state ≠ .starting) :
    Invariant f False fun u => Unserved u f ∧ u.fan f = x where
  beside u v k h := ⟨h.1.beside k, k.fan.trans h.2⟩
  granted u k h := (h.1.not_listed k).elim
  suspended u k h := absurd k h.1.1
  tested u h := by rwa [startPhaseTest_of_ne (by rw [h.2]; exact hx)]
  wished := nofun
  retargeted := nofun
  clamped := nofun

/-! ### A fan just cleared (R59) -/

/-- Nothing of the lockout is left, but for a trip at the entry to AWAIT_GRANT since (R42, R57; log entry 29). -/
structure Fresh (fault : Bool) (f : Fin 4) (s : State) : Prop where
  input : (s.fan f).faultInput = fault
  memory : (s.fan f).lockoutMemory = false
  state : (s.fan f).state ≠ .lockedOut
  trips : ((s.fan f).tripCount = 0 ∧ (s.fan f).lastTrip = .noTrip ∧ (s.fan f).state ≠ .tripped) ∨
    (fault = true ∧ (s.fan f).tripCount = 1 ∧ (s.fan f).state = .tripped ∧ Unserved s f)

/-- A change of the fan's state among those in which nothing trips or locks it. -/
theorem Fresh.moved {fault : Bool} {f : Fin 4} {s t : State} (h : Fresh fault f s) (record : SameRecord (s.fan f) (t.fan f))
    (was : (s.fan f).state ≠ .tripped) (now : (t.fan f).state ≠ .tripped ∧ (t.fan f).state ≠ .lockedOut) :
    Fresh fault f t where
  input := record.faultInput.trans h.input
  memory := record.lockoutMemory.trans h.memory
  state := now.2
  trips := by
    obtain ⟨count, trip, _⟩ | ⟨_, _, tripped, _⟩ := h.trips
    · exact .inl ⟨record.tripCount.trans count, record.lastTrip.trans trip, now.1⟩
    · exact absurd tripped was

theorem Fresh.stays {fault : Bool} {f : Fin 4} {s t : State} (h : Fresh fault f s) (record : SameRecord (s.fan f) (t.fan f))
    (state : (t.fan f).state = (s.fan f).state) (free : Unserved s f → Unserved t f) : Fresh fault f t where
  input := record.faultInput.trans h.input
  memory := record.lockoutMemory.trans h.memory
  state := by rw [state]; exact h.state
  trips := by
    rw [record.tripCount, record.lastTrip, state]
    exact h.trips.imp_right fun ⟨fault, count, tripped, alone⟩ => ⟨fault, count, tripped, free alone⟩

theorem Fresh.retaken {fault : Bool} {f : Fin 4} {s t : State} (h : Fresh fault f s) (k : Retaken f s t) : Fresh fault f t := by
  cases k with
  | stays arbiter record _ state =>
    obtain same | ⟨was, now⟩ := state
    · exact h.stays record same fun free => free.of_arbiter arbiter
    · exact h.moved record (by rw [was]; nofun) (by rw [now]; exact ⟨nofun, nofun⟩)
  | leaves _ record _ was state =>
    refine h.moved record ?_ ?_
    · obtain was | was | was := was <;> rw [was] <;> nofun
    · obtain now | now | now := state <;> rw [now] <;> exact ⟨nofun, nofun⟩
  | trips was asserted free fan =>
    obtain ⟨x, record, fan⟩ := fan
    obtain ⟨count, _, _⟩ | ⟨_, _, tripped, _⟩ := h.trips
    · refine ⟨?_, ?_, ?_, .inr ⟨h.input.symm.trans asserted, ?_, ?_, free⟩⟩ <;> rw [fan]
      · exact record.faultInput.trans h.input
      · exact record.lockoutMemory.trans h.memory
      · exact nofun
      · simp [Fan.afterTrip, record.tripCount, count]
      · rfl
    · exact absurd (was.symm.trans tripped) nofun
  | joins was _ record _ state _ => exact h.moved record (by rw [was]; nofun) (by rw [state]; exact ⟨nofun, nofun⟩)
  | creditless was _ record _ state _ => exact h.moved record (by rw [was]; nofun) (by rw [state]; exact ⟨nofun, nofun⟩)

theorem SameMakeup.record {x y : Fan} (h : SameMakeup x y) : SameRecord x y :=
  ⟨h.faultInput, h.held, h.tripCount, h.lastTrip, h.lockoutMemory⟩

theorem fresh_invariant (fault : Bool) (f : Fin 4) (own : Prop) : Invariant f own (Fresh fault f) where
  beside u v k h := h.stays (by rw [k.fan]; exact {}) (by rw [k.fan]) fun free => free.beside k
  granted u k h := by
    have record := (granting_makeup f f u).record
    obtain ⟨count, trip, notTripped⟩ | ⟨_, _, _, free⟩ := h.trips
    · obtain ⟨_, ⟨_, state⟩ | ⟨_, state⟩⟩ := granting_given f u
      · exact h.moved record notTripped (by rw [state]; exact ⟨notTripped, h.state⟩)
      · exact h.moved record notTripped (by rw [state]; exact ⟨nofun, nofun⟩)
    · exact (free.not_listed k).elim
  suspended u k h := by
    have fan := suspend_fan f u
    obtain ⟨_, _, notTripped⟩ | ⟨_, _, _, free⟩ := h.trips
    · exact h.moved (suspend_makeup f f u).record notTripped (by rw [fan]; exact ⟨notTripped, h.state⟩)
    · exact absurd k free.1
  tested u h := by
    obtain same | ⟨starting, _, fan⟩ := startPhaseTest_tested f u
    · rwa [same]
    · exact h.moved (startPhaseTest_makeup f f u).record (by rw [starting]; nofun) (by rw [fan]; exact ⟨nofun, nofun⟩)
  wished _ u m h := h.stays (by rw [State.withFan_fan_self]; exact {}) (by rw [State.withFan_fan_self]) fun k => k.of_arbiter rfl
  retargeted _ u t h := h.retaken (takeTarget_retaken f t u)
  clamped _ u h := h.stays (by rw [clampReference, State.withFan_fan_self]; exact {})
    (by rw [clampReference, State.withFan_fan_self]) fun k => k.of_arbiter rfl

/-! ### A fan that asks for a grant (R80, R81) -/

theorem makeup_invariant (f : Fin 4) (x : Fan) : Invariant f False fun u => SameMakeup x (u.fan f) where
  beside u v k h := by rwa [k.fan]
  granted u _ h := h.trans (granting_makeup f f u)
  suspended u _ h := h.trans (suspend_makeup f f u)
  tested u h := h.trans (startPhaseTest_makeup f f u)
  wished := nofun
  retargeted := nofun
  clamped := nofun

/-- A fan that waits or starts from a reference of 0 goes on so through what is not its own. -/
theorem pending_invariant (f : Fin 4) : Invariant f False fun u => Pending (u.fan f) where
  beside u v k h := by rwa [k.fan]
  granted u _ h := h.granting
  suspended u _ h := h.suspend
  tested u h := by rwa [h.phaseGoesOn]
  wished := nofun
  retargeted := nofun
  clamped := nofun

end Sys2Proof.Machine
end

section
/-! Door policies removed and applied where the engaged record changes (R104, R106, R107, R109, R139). -/

namespace Sys2Proof.Machine

/-! ### One policy -/

theorem removeSource_absent {d : Fin 2} {src : EscapeSource} {s : State} (h : (s.door d).escape.has src = false) :
    removeSource d src s = s := if_neg (by simp [h])

theorem removeSource_door {d : Fin 2} {src : EscapeSource} {s : State} (h : (s.door d).escape.has src = true) :
    let y := { s.door d with escape := (s.door d).escape.put false src }.dropReopen
    (removeSource d src s).door d = if y.holdingReason = true then y else y.startHold (s.doorCfg d) := by
  have cfg : (putSource d false src s).doorCfg d = s.doorCfg d := by
    simp only [State.doorCfg, (putSource_oneDoor d false src s).frame.store]
  have door := putSource_door d false src s
  refine (congrArg (State.door · d) (if_pos h)).trans ?_
  simp only [door, cfg]
  split
  · exact door
  · exact State.withDoor_door_self ..

/-- OPEN_HOLD removed is its source taken from the set (R104, R107, R139). -/
theorem removeSource_scenario {d : Fin 2} {s : State} (h : (s.door d).escape.scenario = true) :
    (removeSource d .scenario s).door d = { s.door d with
      escape := (s.door d).escape.put false .scenario
      reopen := if ((s.door d).escape.put false .scenario).active then (s.door d).reopen else none
      holdOpen := if (s.door d).escape.escapeLine = true ∨ (s.door d).recloseSuspended = true then (s.door d).holdOpen
        else if (s.door d).state = .isOpen then holdFor (s.doorCfg d) (s.door d) ((s.door d).escape.put false .scenario)
        else none } := by
  have held : ({ s.door d with escape := (s.door d).escape.put false .scenario }.dropReopen).holdingReason = true ↔
      (s.door d).escape.escapeLine = true ∨ (s.door d).recloseSuspended = true := by
    simp [Door.holdingReason, Door.dropReopen, EscapeSet.put]
  rw [removeSource_door (src := .scenario) h]
  simp only [held]
  split
  · rfl
  · by_cases isOpen : (s.door d).state = .isOpen
    · have hold := startHold_eq (cfg := s.doorCfg d)
        (x := { s.door d with escape := (s.door d).escape.put false .scenario }.dropReopen) isOpen
      rw [if_pos isOpen]
      exact congrArg (fun h => { ({ s.door d with escape := (s.door d).escape.put false .scenario } : Door).dropReopen with
        holdOpen := h }) hold
    · rw [if_neg isOpen]
      have none : ({ s.door d with escape := (s.door d).escape.put false .scenario }.dropReopen).mayReclose (s.doorCfg d)
          = false := by simp [Door.mayReclose, Door.dropReopen, isOpen]
      simp only [Door.startHold, none]
      rfl

/-- What the removal of a policy does at its door (R104, R107, R109, R139). -/
theorem removePolicy_removed (p : DoorPolicy) (d : Fin 2) (s : State) :
    PolicyRemoved (s.doorCfg d) p (s.door d) ((removePolicy p d s).door d) := by
  refine ⟨fun h => ?_, fun h => ?_, fun h => ?_⟩ <;> subst h
  · rfl
  · exact ⟨fun h => congrArg (State.door · d) (removeSource_absent h), removeSource_scenario⟩
  · have written : (s.withDoor d { s.door d with unlockPolicy := false }).door d = { s.door d with unlockPolicy := false } :=
      State.withDoor_door_self ..
    refine ⟨fun locks => ?_, fun locks => ?_⟩
    · have relocks : removePolicy .unlock d s = enterDoor d .closedLocked (s.withDoor d { s.door d with unlockPolicy := false }) :=
        if_pos (by rw [written]; exact ⟨locks.1, locks.2, rfl⟩)
      rw [relocks, enterDoor_door, written]
      exact ⟨rfl, rfl, rfl, rfl, rfl, rfl, rfl, rfl⟩
    · have stays : removePolicy .unlock d s = s.withDoor d { s.door d with unlockPolicy := false } :=
        if_neg (by rw [written]; exact fun k => locks ⟨k.1, k.2.1⟩)
      rw [stays, written]

/-- What the application of a policy does (R106, R109, R139). -/
theorem applyPolicy_applied (p : DoorPolicy) (d : Fin 2) (s : State) : PolicyApplied d p s (applyPolicy p d s) := by
  refine ⟨fun h => ?_, fun h => ?_, fun h => ?_⟩ <;> subst h
  · rfl
  · exact arrive_arrives ..
  · have written : (s.withDoor d { s.door d with unlockPolicy := true }).door d = { s.door d with unlockPolicy := true } :=
      State.withDoor_door_self ..
    refine ⟨fun locked => ?_, fun locked => ?_⟩
    · have opens : applyPolicy .unlock d s = enterDoor d .closed (s.withDoor d { s.door d with unlockPolicy := true }) :=
        if_pos (by rw [written]; exact locked)
      rw [opens, enterDoor_door, written]
      exact ⟨rfl, rfl, rfl, rfl, rfl, rfl, rfl, rfl⟩
    · have stays : applyPolicy .unlock d s = s.withDoor d { s.door d with unlockPolicy := true } :=
        if_neg (by rw [written]; exact locked)
      rw [stays, written]

/-! ### The held source and the UNLOCK policy behind a request (R105, R109) -/

theorem abortToEscape_stays (d : Fin 2) (s : State) : Stays d s (abortToEscape d s) := by
  rw [Stays, abortToEscape_door]
  exact {}

theorem escapeActs_stays (d : Fin 2) (s : State) : Stays d s (escapeActs d s) := by
  unfold escapeActs
  split
  case h_1 | h_2 | h_3 | h_4 | h_5 => exact startTravel_stays ..
  · exact ((abortToEscape_stays ..).trans (runMotor_stays ..)).trans (testsFor_stays ..)
  · split
    · exact abortToEscape_stays ..
    · exact raiseCurrent_stays ..
  · exact raiseCurrent_stays ..
  · exact raiseCurrent_stays ..
  · exact .withDoor d {}
  · exact .refl d s

theorem arrive_unlockPolicy (d : Fin 2) (src : EscapeSource) (s : State) :
    ((arrive d src s).door d).unlockPolicy = (s.door d).unlockPolicy := by
  by_cases inactive : (s.door d).state = .inactive
  · rw [arrive_inactive inactive]
  · have acted : ((escapeActs d (requested d src s)).door d).unlockPolicy = (s.door d).unlockPolicy := by
      rw [(escapeActs_stays d _).unlockPolicy, requested_door]
    by_cases isOpen : (s.door d).state = .isOpen
    · rw [arrive_open isOpen]
      split
      · rw [putSource_door]
        exact acted
      · exact acted
    · rw [arrive_closed inactive isOpen]
      exact acted

theorem arrive_scenario {d : Fin 2} {s : State} (h : (s.door d).state ≠ .inactive) :
    ((arrive d .scenario s).door d).escape.scenario = true := by
  have acted : ((escapeActs d (requested d .scenario s)).door d).escape.scenario = true := by
    rw [(escapeActs_stays d _).scenario, requested_door]
    rfl
  by_cases isOpen : (s.door d).state = .isOpen
  · rw [arrive_open isOpen]
    exact acted
  · rw [arrive_closed h isOpen]
    exact acted

theorem removed_scenario {cfg : DoorSettings} {x y : Door} (h : PolicyRemoved cfg .openHold x y) : y.escape.scenario = false := by
  obtain ⟨absent, present⟩ := h.openHold rfl
  cases hx : x.escape.scenario with
  | false => rw [absent hx, hx]
  | true =>
    rw [present hx]
    rfl

theorem removed_unlockPolicy {cfg : DoorSettings} {x y : Door} (h : PolicyRemoved cfg .unlock x y) : y.unlockPolicy = false := by
  obtain ⟨locks, stays⟩ := h.unlock rfl
  by_cases k : x.state = .closed ∧ cfg.lockPolicy = .lockedWhenClosed
  · exact (locks k).2.1
  · rw [stays k]

theorem applied_unlocked {d : Fin 2} {s t : State} (h : PolicyApplied d .unlock s t) :
    (t.door d).unlockPolicy = true ∧ (t.door d).state ≠ .closedLocked ∧ (t.door d).escape = (s.door d).escape := by
  obtain ⟨locked, stays⟩ := h.unlock rfl
  by_cases k : (s.door d).state = .closedLocked
  · obtain ⟨state, policy, _, _, escape, _⟩ := locked k
    exact ⟨policy, by rw [state]; nofun, escape⟩
  · rw [stays k]
    exact ⟨rfl, k, rfl⟩

/-! ### Every door whose policy changes (R136, R140, R141) -/

/-- Each member's own event meets its door as the event before the whole left it, and leaves it so. -/
theorem takeEachDoor_at {act : Fin 2 → State → State} (each : ∀ d s, OneDoor d s (act d s)) {l : List (Fin 2)} (hl : l.Nodup)
    (s : State) (d : Fin 2) : (d ∉ l → (takeEach l act s).door d = s.door d) ∧
      (d ∈ l → ∃ u, DoorFrame s u ∧ u.door d = s.door d ∧ DoorFrame (act d u) (takeEach l act s) ∧
        (takeEach l act s).door d = (act d u).door d) := by
  induction l generalizing s with
  | nil => exact ⟨fun _ => rfl, nofun⟩
  | cons e l ih =>
    obtain ⟨he, hl⟩ := List.nodup_cons.mp hl
    obtain ⟨absent, present⟩ := ih hl (act e s)
    have frame : DoorFrame (act e s) (takeEach l act (act e s)) :=
      takeEach_rel DoorFrame .refl (fun _ _ _ => .trans) act (fun d s => (each d s).frame) l _
    refine ⟨fun hd => ?_, fun hd => ?_⟩
    · obtain ⟨hde, hdl⟩ := not_or.mp (List.mem_cons.not.mp hd)
      exact (absent hdl).trans ((each e s).others d hde)
    · obtain rfl | hdl := List.mem_cons.mp hd
      · exact ⟨s, .refl s, rfl, frame, absent he⟩
      · have hde : d ≠ e := fun k => he (k ▸ hdl)
        obtain ⟨u, before, door, behind⟩ := present hdl
        exact ⟨u, (each e s).frame.trans before, door.trans ((each e s).others d hde), behind⟩

theorem takeDoors_at {act : Fin 2 → State → State} (each : ∀ d s, OneDoor d s (act d s)) {l : List (Fin 2)} (hl : l.Nodup)
    (s : State) (d : Fin 2) : (d ∉ l → (takeInAnyOrder l act s).door d = s.door d) ∧
      (d ∈ l → ∃ u, DoorFrame s u ∧ u.door d = s.door d ∧ DoorFrame (act d u) (takeInAnyOrder l act s) ∧
        (takeInAnyOrder l act s).door d = (act d u).door d) := by
  obtain ⟨absent, present⟩ := takeEachDoor_at each ((arrange_perm s.freeChoice l).nodup_iff.mpr hl) s.nextChoice d
  refine ⟨fun hd => absent (by rwa [mem_arrange]), fun hd => ?_⟩
  obtain ⟨u, before, behind⟩ := present (by rwa [mem_arrange])
  exact ⟨u, (FanFrame.nextChoice s).doorFrame.trans before, behind⟩

/-- Policies changed at one door: nothing where it keeps its policy, else a removal and then, from `u` on, an application. -/
structure PolicyChanged (d : Fin 2) (old new : DoorPolicy) (s t : State) : Prop where
  kept : old = new → t.door d = s.door d
  changed : old ≠ new → ∃ u, (u.store = s.store ∧ u.channels = s.channels ∧ Queued s.reports u.reports) ∧
    PolicyRemoved (s.doorCfg d) old (s.door d) (u.door d) ∧ Queued (applyPolicy new d u).reports t.reports ∧
    t.door d = (applyPolicy new d u).door d

theorem changePolicies_changed (old new : Option ScenarioRecord) (s : State) (d : Fin 2) :
    PolicyChanged d (engagedPolicy old d) (engagedPolicy new d) s (changePolicies old new s) := by
  have once : (allDoors.filter fun d => engagedPolicy old d != engagedPolicy new d).Nodup := List.Nodup.filter _ (by decide)
  have mem : d ∈ (allDoors.filter fun d => engagedPolicy old d != engagedPolicy new d) ↔
      engagedPolicy old d ≠ engagedPolicy new d := by simp [mem_allDoors]
  have removals := takeDoors_at (fun d s => removePolicy_oneDoor (engagedPolicy old d) d s) once s d
  have applications := takeDoors_at (fun d s => applyPolicy_oneDoor (engagedPolicy new d) d s) once
    (takeInAnyOrder (allDoors.filter fun d => engagedPolicy old d != engagedPolicy new d)
      (fun d => removePolicy (engagedPolicy old d) d) s) d
  refine ⟨fun same => ?_, fun differ => ?_⟩
  · have absent := fun k => mem.mp k same
    exact (applications.1 absent).trans (removals.1 absent)
  · obtain ⟨v, before, door, behind, removed⟩ := removals.2 (mem.mpr differ)
    obtain ⟨u, between, same, last, applied⟩ := applications.2 (mem.mpr differ)
    have policy := removePolicy_removed (engagedPolicy old d) d v
    rw [← removed, ← same, door, show v.doorCfg d = s.doorCfg d by simp only [State.doorCfg, before.store]] at policy
    have frame := ((before.trans (removePolicy_oneDoor ..).frame).trans behind).trans between
    exact ⟨u, ⟨frame.store, frame.channels, frame.queued⟩, policy, last.queued, applied⟩

/-- The change within an event that otherwise leaves the door alone. -/
theorem PolicyChanged.within {d : Fin 2} {old new : DoorPolicy} {s a b t : State} (h : PolicyChanged d old new a b)
    (door : a.door d = s.door d) (store : a.store = s.store) (channels : a.channels = s.channels)
    (before : Queued s.reports a.reports) (same : t.door d = b.door d) (behind : Queued b.reports t.reports) :
    PolicyChanged d old new s t where
  kept k := (same.trans (h.kept k)).trans door
  changed k := by
    obtain ⟨u, ⟨hs, hc, hq⟩, removed, last, applied⟩ := h.changed k
    rw [door, show a.doorCfg d = s.doorCfg d by simp only [State.doorCfg, store]] at removed
    exact ⟨u, ⟨hs.trans store, hc.trans channels, before.trans hq⟩, removed, last.trans behind, same.trans applied⟩

theorem removed_active {cfg : DoorSettings} {p : DoorPolicy} {x y : Door} (h : PolicyRemoved cfg p x y)
    (hx : x.state ≠ .inactive) : y.state ≠ .inactive := by
  cases p with
  | keep => rwa [h.keep rfl]
  | openHold =>
    obtain ⟨absent, present⟩ := h.openHold rfl
    cases held : x.escape.scenario with
    | false => rwa [absent held]
    | true =>
      rw [present held]
      exact hx
  | unlock =>
    obtain ⟨locks, stays⟩ := h.unlock rfl
    by_cases k : x.state = .closed ∧ cfg.lockPolicy = .lockedWhenClosed
    · rw [(locks k).1]
      nofun
    · rw [stays k]
      exact hx

/-- OPEN_HOLD that begins puts its source in the set, with its report (R105, R106). -/
theorem PolicyChanged.opens {d : Fin 2} {old : DoorPolicy} {s t : State} (h : PolicyChanged d old .openHold s t)
    (differ : old ≠ .openHold) (active : (s.door d).state ≠ .inactive) :
    (t.door d).escape.scenario = true ∧ Reported s t (doorUnit d) (.doorRequest .scenario) := by
  obtain ⟨u, ⟨_, _, before⟩, removed, behind, applied⟩ := h.changed differ
  have still := removed_active removed active
  rw [applied]
  exact ⟨arrive_scenario still, u.reports, before, ((arrive_arrives d .scenario u).reported still).trans behind⟩

theorem PolicyChanged.unlocks {d : Fin 2} {old : DoorPolicy} {s t : State} (h : PolicyChanged d old .unlock s t)
    (differ : old ≠ .unlock) : (t.door d).unlockPolicy = true ∧ (t.door d).state ≠ .closedLocked := by
  obtain ⟨u, _, _, _, applied⟩ := h.changed differ
  obtain ⟨policy, state, _⟩ := applied_unlocked (applyPolicy_applied .unlock d u)
  rw [applied]
  exact ⟨policy, state⟩

theorem PolicyChanged.releases {d : Fin 2} {new : DoorPolicy} {s t : State} (h : PolicyChanged d .openHold new s t)
    (differ : .openHold ≠ new) : (t.door d).escape.scenario = false := by
  obtain ⟨u, _, removed, _, applied⟩ := h.changed differ
  have gone := removed_scenario removed
  rw [applied]
  cases new with
  | keep => exact gone
  | openHold => exact absurd rfl differ
  | unlock => rwa [(applied_unlocked (applyPolicy_applied .unlock d u)).2.2]

theorem PolicyChanged.relocks {d : Fin 2} {new : DoorPolicy} {s t : State} (h : PolicyChanged d .unlock new s t)
    (differ : .unlock ≠ new) : (t.door d).unlockPolicy = false := by
  obtain ⟨u, _, removed, _, applied⟩ := h.changed differ
  have gone := removed_unlockPolicy removed
  rw [applied]
  cases new with
  | keep => exact gone
  | openHold => exact (arrive_unlockPolicy ..).trans gone
  | unlock => exact absurd rfl differ

/-- Policies that end leave the removal alone. -/
theorem PolicyChanged.removed {d : Fin 2} {old : DoorPolicy} {s t : State} (h : PolicyChanged d old .keep s t) :
    PolicyRemoved (s.doorCfg d) old (s.door d) (t.door d) := by
  by_cases k : old = .keep
  · rw [h.kept k]
    subst k
    exact ⟨fun _ => rfl, nofun, nofun⟩
  · obtain ⟨u, _, removed, _, applied⟩ := h.changed k
    rw [applied]
    exact removed

end Sys2Proof.Machine
end

section
/-! Lockouts cleared and CREDIT_WAIT left at an engagement, as one fan sees them (R59, R90, R136). -/

namespace Sys2Proof.Machine

/-! ### A lockout cleared (R59) -/

/-- The fan off, its lockout forgotten, its target not yet applied. -/
def Fan.forgiven (x : Fan) : Fan := { x with tripCount := 0, lastTrip := .noTrip, lockoutMemory := false }.outputsOff .off

def lockoutForgotten (f : Fin 4) (s : State) : State := s.withFan f (s.fan f).forgiven

theorem lockoutForgotten_fan (f : Fin 4) (s : State) : (lockoutForgotten f s).fan f = (s.fan f).forgiven :=
  State.withFan_fan_self ..

theorem clearLockout_eq (f : Fin 4) (s : State) :
    clearLockout f s = serve (reportFanChange .lockedOut f .clear (reapply f (lockoutForgotten f s))) := by
  simp [clearLockout, enterOff, lockoutForgotten, Fan.forgiven]

theorem clearLockout_keeps {f : Fin 4} {P : State → Prop} {s : State} (k : Invariant f False P)
    (retaken : ∀ u v, v.incident = u.incident → Retaken f u v → P u → P v) (h : P (lockoutForgotten f s)) :
    P (clearLockout f s) := by
  have off : ((lockoutForgotten f s).fan f).state = .off := by
    rw [lockoutForgotten_fan]
    rfl
  have applied := retaken _ _ (reapply_at f _).frame.incident (reapply_retaken off) h
  rw [clearLockout_eq]
  exact Tracks.keeps (((reportFanChange_beside f f .lockedOut .clear _).tracks (own := False)).serve) k applied

/-- A fan whose lockout is cleared asks for nothing without a wish, and trips where its FAULT input is asserted. -/
theorem clearLockout_unserved {f : Fin 4} {s : State} (free : Unserved s f)
    (h : ¬ Wishes s (s.fan f).forgiven ∨
      (s.fan f).faultInput = true) : Unserved (clearLockout f s) f := by
  have fan := lockoutForgotten_fan f s
  rw [clearLockout_eq]
  refine serve_unserved (reportFanChange_unserved ?_)
  by_cases wish : Wishes (lockoutForgotten f s) ((lockoutForgotten f s).fan f)
  · have fault : (s.fan f).faultInput = true := h.resolve_left (by
      rw [fan] at wish
      exact not_not.mpr wish)
    rw [reapply_wish (by rw [fan]; rfl) wish, enterAwait_trips (by rw [fan]; exact fault)]
    exact trip_unserved ..
  · rw [reapply_noWish wish]
    exact free.of_arbiter rfl

/-- The lockout of fan `f`, which stood in `r`, has been cleared since, and nothing but what `Tracks` says has happened to the fan
behind that. -/
def Cleared (f : Fin 4) (own : Prop) (r t : State) : Prop :=
  ∃ p, StaysLocked f r p ∧ Queued r.reports p.reports ∧ Queued (clearLockout f p).reports t.reports ∧
    Tracks f own (clearLockout f p) t

theorem Cleared.later {f : Fin 4} {own own' : Prop} {r t u : State} (h : Cleared f own' r t) (k : Tracks f own t u)
    (q : Queued t.reports u.reports) (o : own' → own) : Cleared f own r u := by
  obtain ⟨p, locked, before, behind, tracks⟩ := h
  exact ⟨p, locked, before, behind.trans q, (tracks.mono o).trans k id⟩

theorem StaysLocked.fresh {f : Fin 4} {r p : State} (h : StaysLocked f r p) :
    Fresh (r.fan f).faultInput f (clearLockout f p) := by
  refine clearLockout_keeps (fresh_invariant _ f False) (fun _ _ _ k h => h.retaken k) ?_
  constructor <;> rw [lockoutForgotten_fan]
  · exact h.faultInput
  · rfl
  · exact nofun
  · exact .inl ⟨rfl, rfl, nofun⟩

theorem StaysLocked.seat {f : Fin 4} {r p : State} (h : StaysLocked f r p) : Seat True f (clearLockout f p) := by
  refine clearLockout_keeps (seat_invariant True f False) (fun _ _ _ k h => h.retaken k) ?_
  refine .of_left (h.free.of_arbiter rfl) ?_ ?_ <;> rw [lockoutForgotten_fan]
  · exact h.credit
  · exact nofun

theorem StaysLocked.noCreditWait {f : Fin 4} {r p : State} (h : StaysLocked f r p) (hm : r.incident = true) :
    NoCreditWait f (clearLockout f p) := by
  refine clearLockout_keeps (noCreditWait_invariant f False) (fun _ _ mode k h => h.retaken mode k) ⟨h.incident.trans hm, ?_⟩
  rw [lockoutForgotten_fan]
  exact h.credit

theorem Cleared.fresh {f : Fin 4} {own : Prop} {r t : State} (h : Cleared f own r t) : Fresh (r.fan f).faultInput f t := by
  obtain ⟨p, locked, _, _, tracks⟩ := h
  exact tracks.keeps (fresh_invariant _ f own) locked.fresh

theorem Cleared.noCreditWait {f : Fin 4} {own : Prop} {r t : State} (h : Cleared f own r t) (hm : r.incident = true) :
    NoCreditWait f t := by
  obtain ⟨p, locked, _, _, tracks⟩ := h
  exact tracks.keeps (noCreditWait_invariant f own) (locked.noCreditWait hm)

/-- What is left of a lockout cleared in INCIDENT (R59; log entry 29): `s` stands before the engagement, `r` where its record has
been copied. -/
theorem Cleared.lockoutCleared {f : Fin 4} {s r t : State} (h : Cleared f (s.ctl.pressFan = some f) r t) (hm : r.incident = true)
    (fault : (r.fan f).faultInput = (s.fan f).faultInput) (held : (r.fan f).held = (s.fan f).held) (stop : r.stop = s.stop)
    (queued : Queued s.reports r.reports) :
    LockoutCleared f s t ((t.fan f).target.speed ≠ 0 ∧ s.stop.asserted = false ∧ (s.fan f).held = false) := by
  have fresh := h.fresh
  obtain ⟨p, locked, before, behind, tracks⟩ := h
  have applied : Applied f .lockedOut .clear (p.fan f).forgiven p (clearLockout f p) := clearLockout_applied locked.free
  have input : (p.fan f).faultInput = (s.fan f).faultInput := locked.faultInput.trans fault
  have reported {d : ReportData} (k : FirstReport p (clearLockout f p) (fanUnit f) d) : Reported s t (fanUnit f) d :=
    ⟨p.reports, queued.trans before, k.trans behind⟩
  have alone (hp : s.ctl.pressFan ≠ some f) := tracks.mono (own := False) hp
  have makeup (hp : s.ctl.pressFan ≠ some f) : SameMakeup ((clearLockout f p).fan f) (t.fan f) :=
    (alone hp).keeps (makeup_invariant f _) {}
  have wishes (hp : s.ctl.pressFan ≠ some f) :
      Wishes p (p.fan f).forgiven ↔
        (t.fan f).target.speed ≠ 0 ∧ s.stop.asserted = false ∧ (s.fan f).held = false := by
    rw [(makeup hp).target, applied.target, ← stop, ← locked.stop, ← held, ← locked.held]
    exact .rfl
  refine ⟨⟨fresh.memory, fresh.state, ?_⟩, fun h => ?_, fun h => ?_, fun hp h => ?_, fun hp h hf => ?_, fun hp h hf => ?_⟩
  · exact fresh.trips.elim (fun k => k.1.le.trans (Nat.zero_le 1)) fun k => k.2.1.le
  · obtain clear | ⟨hp, wish⟩ := h
    · obtain ⟨count, trip, _⟩ | ⟨asserted, _⟩ := fresh.trips
      · exact ⟨count, trip⟩
      · exact absurd ((asserted.symm.trans fault).trans clear) nofun
    · have rests := (applied.rests fun k => wish ((wishes hp).mp k)).1
      rw [(makeup hp).tripCount, (makeup hp).lastTrip, rests]
      exact ⟨rfl, rfl⟩
  · by_cases wish : Wishes p (p.fan f).forgiven
    · exact .inr (reported ((applied.asks wish (input.trans h)).2 nofun))
    · exact .inl (reported ((applied.rests wish).2 nofun))
  · have wish := fun k => h ((wishes hp).mp k)
    obtain ⟨rests, report⟩ := applied.rests wish
    have still := (alone hp).keeps (alone_invariant (x := (p.fan f).forgiven) nofun)
      ⟨clearLockout_unserved locked.free (.inl wish), rests⟩
    exact ⟨by rw [still.2]; rfl, reported (report nofun)⟩
  · have wish := (wishes hp).mpr h
    obtain ⟨asking, report⟩ := applied.asks wish (input.trans hf)
    have asked := applied.asked wish (input.trans hf)
    have pending : Pending ((clearLockout f p).fan f) := by
      refine ⟨by rw [applied.target]; exact wish.1, asked.1.imp_right fun k => ⟨k, ?_⟩⟩
      exact Nat.le_zero.mp applied.reference
    have goesOn := ((alone hp).keeps (pending_invariant f) pending).2.imp_right And.left
    have seat := tracks.keeps (seat_invariant True f _) locked.seat
    have credit := (tracks.keeps (noCreditWait_invariant f _) (locked.noCreditWait hm)).2
    refine ⟨goesOn.imp_left fun k => ⟨k, (seat.awaits k).resolve_right (by rw [credit]; nofun)⟩, ?_, reported (report nofun)⟩
    rw [(makeup hp).latched, (makeup hp).target, asking.latched, asking.target]
    rfl
  · have wish := (wishes hp).mpr h
    obtain ⟨trips, report⟩ := applied.trips wish (input.trans hf)
    have still := (alone hp).keeps (alone_invariant (x := (p.fan f).forgiven.asking.afterTrip .driveFault) nofun)
      ⟨clearLockout_unserved locked.free (.inr (input.trans hf)), trips⟩
    exact ⟨by rw [still.2]; rfl, by rw [still.2]; rfl, by rw [still.2]; rfl, reported (report nofun)⟩

/-! ### Every lockout of an engagement (R136 step 4) -/

theorem clearLockout_at (f : Fin 4) (s : State) :
    At f s (reportFanChange .lockedOut f .clear (reapply f (lockoutForgotten f s))) :=
  ((At.withFan (x := (s.fan f).forgiven) { reference := .inl (Nat.zero_le _), lockout := fun k => nomatch k }).trans
    (reapply_at ..)).trans (reportFanChange_at ..)

theorem clearIfEntered_tracks {f g : Fin 4} (s : State) (hg : f ≠ g) : Tracks f False s (clearIfEntered g s) := by
  unfold clearIfEntered
  split
  · rw [clearLockout_eq]
    exact (clearLockout_at g s).tracks hg
  · exact .refl

/-- While the lockouts of an engagement are cleared one by one, fan `f` is locked out as in `r`, or has been cleared. -/
def Clearing (f : Fin 4) (r u : State) : Prop :=
  u.modes = r.modes ∧ Queued r.reports u.reports ∧ (StaysLocked f r u ∨ Cleared f False r u)

theorem Clearing.own {f : Fin 4} {r u : State} (h : Clearing f r u) (entry : (engagedEntry r f).isSome = true) :
    Cleared f False r (clearIfEntered f u) := by
  obtain ⟨modes, queued, locked | cleared⟩ := h
  · have entered : (engagedEntry u f).isSome = true := by
      rw [engagedEntry, modes]
      exact entry
    have clears : clearIfEntered f u = clearLockout f u := if_pos ⟨locked.state, entered⟩
    rw [clears]
    exact ⟨u, locked, queued, .refl _, .refl⟩
  · have stays : clearIfEntered f u = u := if_neg fun k => cleared.fresh.state k.1
    rwa [stays]

theorem Clearing.step {f : Fin 4} {r u : State} (h : Clearing f r u) (entry : (engagedEntry r f).isSome = true) (g : Fin 4) :
    Clearing f r (clearIfEntered g u) := by
  have frame := (clearIfEntered_event g u).mild.frame
  refine ⟨frame.modes.trans h.1, h.2.1.trans frame.queued, ?_⟩
  by_cases hg : f = g
  · subst hg
    exact .inr (h.own entry)
  · have tracks := clearIfEntered_tracks u hg
    exact h.2.2.imp (fun k => tracks.keeps (staysLocked_invariant f r False) k) fun k => k.later tracks frame.queued id

/-- Every lockout with an entry is cleared, in whatever order (R59, R136 step 4). -/
theorem clearIfEnteredAll_cleared {f : Fin 4} {r u : State} (h : StaysLocked f r u) (modes : u.modes = r.modes)
    (queued : Queued r.reports u.reports) (entry : (engagedEntry r f).isSome = true) :
    Cleared f False r (takeInAnyOrder allFans clearIfEntered u) := by
  refine takeAllFans_all (Clearing f r) (fun g v => g = f → Cleared f False r v) (fun v k => ?_) (fun g v k => k.step entry g)
    (fun g v k hg => ?_) (fun g e v k done hg => ?_) ⟨modes, queued, .inl h⟩ f rfl
  · have beside := (nextChoice_beside f v).tracks (own := False)
    exact ⟨k.1, k.2.1, k.2.2.imp (fun k => beside.keeps (staysLocked_invariant f r False) k)
      fun k => k.later beside (.refl _) id⟩
  · subst hg
    exact k.own entry
  · subst hg
    by_cases he : g = e
    · subst he
      exact k.own entry
    · exact (done rfl).later (clearIfEntered_tracks v he) (clearIfEntered_event e v).mild.frame.queued id

/-! ### CREDIT_WAIT left (R90, R136 step 5) -/

theorem joinInIncident_tracks {f g : Fin 4} (s : State) (hg : f ≠ g) : Tracks f False s (joinInIncident g s) := by
  unfold joinInIncident
  split
  · exact ((At.withWaiting g true s).trans (.withFan (x := { s.fan g with creditWait := false }) {})).tracks hg
  · exact .refl

/-- A fan under no CREDIT_WAIT has nothing to join. -/
theorem joinInIncidentAll_tracks {f : Fin 4} {s : State} (h : NoCreditWait f s) :
    Tracks f False s (takeInAnyOrder allFans joinInIncident s) := by
  refine (takeInAnyOrder_inv (fun u => Tracks f False s u ∧ NoCreditWait f u) (fun u k => ?_) joinInIncident (fun g u k => ?_)
    allFans s ⟨.refl, h⟩).1
  · have beside := (nextChoice_beside f u).tracks (own := False)
    exact ⟨k.1.trans beside id, beside.keeps (noCreditWait_invariant f False) k.2⟩
  · by_cases hg : f = g
    · subst hg
      have stays : joinInIncident f u = u := if_neg (by rw [k.2.2]; nofun)
      rwa [stays]
    · have tracks := joinInIncident_tracks u hg
      exact ⟨k.1.trans tracks id, tracks.keeps (noCreditWait_invariant f False) k.2⟩

/-- The fan leaves CREDIT_WAIT for the waiting list. -/
theorem joinInIncident_own {f : Fin 4} {s : State} (h : s.incident = true) :
    NoCreditWait f (joinInIncident f s) ∧ (Seat False f s → Seat False f (joinInIncident f s)) := by
  unfold joinInIncident
  split
  · have served : Tracks f False ((s.withArbiter { s.arbiter with waiting := s.arbiter.waiting.set f true f.isLt }).withFan f
        { s.fan f with creditWait := false }) _ := Tracks.refl.serve
    refine ⟨served.keeps (noCreditWait_invariant f False) ⟨h, by rw [State.withFan_fan_self]⟩, fun k =>
      served.keeps (seat_invariant False f False) ⟨?_, fun _ => .inl (by simp), nofun, nofun⟩⟩
    rw [State.withFan_fan_self]
    exact k.serves
  · next none => exact ⟨⟨h, by simpa using none⟩, id⟩

/-- Every fan is out of CREDIT_WAIT then, and one that awaits its grant on the waiting list (R90, R136 step 5). -/
theorem joinInIncidentAll_joined {f : Fin 4} {s : State} (h : s.incident = true) :
    NoCreditWait f (takeInAnyOrder allFans joinInIncident s) ∧
      (Seat False f s → Seat False f (takeInAnyOrder allFans joinInIncident s)) := by
  have seats : ∀ g u, (u.incident = true ∧ (Seat False f s → Seat False f u)) →
      (joinInIncident g u).incident = true ∧ (Seat False f s → Seat False f (joinInIncident g u)) := fun g u k => by
    refine ⟨(joinOnCredit_event g u).mild.frame.incident.trans k.1, fun seat => ?_⟩
    by_cases hg : f = g
    · subst hg
      exact (joinInIncident_own k.1).2 (k.2 seat)
    · exact (joinInIncident_tracks u hg).keeps (seat_invariant False f False) (k.2 seat)
  have choice : ∀ u, (u.incident = true ∧ (Seat False f s → Seat False f u)) →
      u.nextChoice.incident = true ∧ (Seat False f s → Seat False f u.nextChoice) := fun u k =>
    ⟨k.1, fun seat => (seat_invariant False f False).beside u _ (nextChoice_beside f u) (k.2 seat)⟩
  refine ⟨?_, (takeInAnyOrder_inv _ choice joinInIncident seats allFans s ⟨h, id⟩).2⟩
  refine takeAllFans_all (fun u => u.incident = true) (fun g u => g = f → NoCreditWait f u) (fun _ => id)
    (fun g u k => (joinOnCredit_event g u).mild.frame.incident.trans k) (fun g u k hg => ?_) (fun g e u k done hg => ?_) h f rfl
  · subst hg
    exact (joinInIncident_own k).1
  · subst hg
    by_cases he : g = e
    · subst he
      exact (joinInIncident_own k).1
    · exact (joinInIncident_tracks u he).keeps (noCreditWait_invariant g False) (done rfl)

/-- The places of a fan through the lockouts cleared. -/
theorem clearIfEnteredAll_seat {f : Fin 4} {s : State} (h : Seat False f s) :
    Seat False f (takeInAnyOrder allFans clearIfEntered s) := by
  refine takeInAnyOrder_inv (Seat False f) (fun u => (seat_invariant False f False).beside u _ (nextChoice_beside f u))
    clearIfEntered (fun g u k => ?_) allFans s h
  by_cases hg : f = g
  · subst hg
    unfold clearIfEntered
    split
    · next locked =>
      refine clearLockout_keeps (seat_invariant False f False) (fun _ _ _ r k => k.retaken r) ⟨fun hl => ?_, ?_, nofun, nofun⟩
      · exact absurd (locked.1.symm.trans (k.serves hl)) nofun
      · rw [lockoutForgotten_fan]
        exact nofun
    · exact k
  · exact (clearIfEntered_tracks u hg).keeps (seat_invariant False f False) k

end Sys2Proof.Machine
end

section
/-! Engagement and re-engagement (R136 to R140). -/

namespace Sys2Proof.Machine

/-! ### The record taken (R136 steps 1 to 3, R140 steps 1, 2 and 4) -/

/-- From `s` to `r` the mode controller takes the record of scenario `n` and reports it; the fans keep all but their setpoints. -/
structure Recorded (n : Nat) (cause : ModeCause) (tag : Nat) (s r : State) : Prop where
  same : r = { s with fans := r.fans, modes := r.modes, reports := s.reports.arrive 0 (.mode .incident n cause tag) }
  modes : r.modes = { (engageRecord n cause tag s).modes with frozen := r.modes.frozen }
  frozen : r.modes.frozen = if s.modes.mode = .incident then s.modes.frozen else some (heldTargets s)
  fan : ∀ f, r.fan f = { s.fan f with setpoint := (r.fan f).setpoint }

theorem engageRecord_recorded (n : Nat) (cause : ModeCause) (tag : Nat) {s : State} (h : s.modes.mode = .incident) :
    Recorded n cause tag s (engageRecord n cause tag s) := ⟨rfl, rfl, (if_pos h).symm, fun _ => rfl⟩

/-- The record taken from AUTO or MANUAL: the targets frozen and the setpoints discarded before it. -/
def firstRecorded (n : Nat) (cause : ModeCause) (tag : Nat) (s : State) : State :=
  engageRecord n cause tag (discardSetpoints (freezeTargets s))

theorem firstRecorded_fan (n : Nat) (cause : ModeCause) (tag : Nat) (s : State) (f : Fin 4) :
    (firstRecorded n cause tag s).fan f = { s.fan f with setpoint := none } := discardSetpoints_fan (freezeTargets s) f

theorem firstRecorded_recorded (n : Nat) (cause : ModeCause) (tag : Nat) {s : State} (h : s.modes.mode ≠ .incident) :
    Recorded n cause tag s (firstRecorded n cause tag s) := by
  have same := discardSetpoints_eq (freezeTargets s)
  refine ⟨?_, ?_, ?_, fun f => ?_⟩
  · rw [firstRecorded, same]
    rfl
  · rw [firstRecorded, same]
    rfl
  · rw [firstRecorded, same, if_neg h]
    rfl
  · rw [firstRecorded_fan]

section

variable {n tag : Nat} {cause : ModeCause} {s r : State}

theorem Recorded.incident (h : Recorded n cause tag s r) : r.incident = true := by
  rw [State.incident, h.modes]
  rfl

theorem Recorded.reports (h : Recorded n cause tag s r) : r.reports = s.reports.arrive 0 (.mode .incident n cause tag) := by
  rw [h.same]

theorem Recorded.queued (h : Recorded n cause tag s r) : Queued s.reports r.reports := by
  rw [h.reports]
  exact .arrive ..

theorem Recorded.modeFrame {t : State} (h : Recorded n cause tag s r) (k : DoorFrame r t) : ModeFrame s t := by
  refine ⟨?_, h.queued.trans k.queued⟩
  have same := k.same
  rw [h.same] at same
  rw [k.modes]
  exact same

theorem Recorded.arbiter (h : Recorded n cause tag s r) : r.arbiter = s.arbiter := by rw [h.same]
theorem Recorded.ctl (h : Recorded n cause tag s r) : r.ctl = s.ctl := by rw [h.same]; rfl
theorem Recorded.stop (h : Recorded n cause tag s r) : r.stop = s.stop := by rw [h.same]
theorem Recorded.door (h : Recorded n cause tag s r) (d : Fin 2) : r.door d = s.door d := by rw [h.same]; rfl
theorem Recorded.store (h : Recorded n cause tag s r) : r.store = s.store := by rw [h.same]
theorem Recorded.channels (h : Recorded n cause tag s r) : r.channels = s.channels := by rw [h.same]

theorem Recorded.record (h : Recorded n cause tag s r) : r.modes.record = some (s.settings.scenario n) := by
  rw [h.modes]
  rfl

theorem Recorded.entry (h : Recorded n cause tag s r) (f : Fin 4) :
    engagedEntry r f = (s.settings.scenario n).fans.find? fun e => e.fan == f := by
  rw [engagedEntry, h.record]
  rfl

theorem Recorded.delay (h : Recorded n cause tag s r) (f : Fin 4) :
    r.modes.delays[f]'f.isLt = delayOf ((s.settings.scenario n).fans.find? fun e => e.fan == f) := by
  rw [h.modes]
  exact forallFans (p := fun f => (engageRecord n cause tag s).modes.delays[f]'f.isLt =
    delayOf ((s.settings.scenario n).fans.find? fun e => e.fan == f)) rfl rfl rfl rfl f

/-- The mode target that the engaged record gives a fan (R137, R138). -/
theorem Recorded.wish (h : Recorded n cause tag s r) (f : Fin 4) : incidentTarget r f =
    engagedWish (s.settings.scenario n) ((r.modes.frozen.map fun v => v[f]'f.isLt).getD (s.fan f).modeTarget) f := by
  have held : (r.fan f).modeTarget = (s.fan f).modeTarget := by rw [h.fan]
  have delay := h.delay f
  simp only [incidentTarget, engagedWish, h.entry, held]
  cases he : (s.settings.scenario n).fans.find? fun e => e.fan == f with
  | none => rfl
  | some e =>
    rw [he] at delay
    by_cases now : e.delay = 0
    · have expired : r.modes.delays[f]'f.isLt = .expired := delay.trans (if_pos now)
      simp [expired, now]
    · have running : r.modes.delays[f]'f.isLt = .running 0 := delay.trans (if_neg now)
      simp [running, now]

end

/-! ### The fans' targets (R137, R138) -/

/-- Every fan refreshed takes the mode target that the mode controller gave it before. -/
theorem refreshIncidentAll_from (s : State) (f : Fin 4) :
    ((takeInAnyOrder allFans refreshIncident s).fan f).modeTarget = incidentTarget s f := by
  have given {u : State} (hm : u.modes = s.modes)
      (h : (u.fan f).modeTarget = (s.fan f).modeTarget ∨ (u.fan f).modeTarget = incidentTarget s f) :
      incidentTarget u f = incidentTarget s f := by
    obtain ⟨m, gives⟩ | holds := incidentTarget_given_or_held s f
    · rw [gives u hm, gives s rfl]
    · rw [holds u hm, holds s rfl]
      exact h.elim id fun k => k.trans (holds s rfl)
  refine takeAllFans_all (fun u => u.modes = s.modes ∧
      ((u.fan f).modeTarget = (s.fan f).modeTarget ∨ (u.fan f).modeTarget = incidentTarget s f))
    (fun g u => g = f → (u.fan f).modeTarget = incidentTarget s f) (fun _ => id) (fun g u k => ?_) (fun g u k hg => ?_)
    (fun g e u k done hg => ?_) ⟨rfl, .inl rfl⟩ f rfl
  · have refreshed := refreshIncident_refreshed g u
    refine ⟨refreshed.frame.modes.trans k.1, ?_⟩
    by_cases hg : f = g
    · subst hg
      exact .inr (refreshed.modeTarget.trans (given k.1 k.2))
    · rw [refreshed.others f hg]
      exact k.2
  · subst hg
    exact (refreshIncident_refreshed g u).modeTarget.trans (given k.1 k.2)
  · subst hg
    have refreshed := refreshIncident_refreshed e u
    by_cases he : g = e
    · subst he
      exact refreshed.modeTarget.trans (given k.1 k.2)
    · rw [refreshed.others g he]
      exact done rfl

theorem refreshIncidentAll_composed (s : State) (f : Fin 4) : ComposedAt (takeInAnyOrder allFans refreshIncident s) f :=
  takeAllFans_all (fun _ => True) (fun f u => ComposedAt u f) (fun _ => id) (fun _ _ => id)
    (fun g u _ => (refreshIncident_refreshed g u).composed) (fun f g u _ k => (refreshIncident_sound g u).composed f k) trivial f

theorem refreshIncidentAll_setpoint (s : State) (f : Fin 4) :
    ((takeInAnyOrder allFans refreshIncident s).fan f).setpoint = (s.fan f).setpoint :=
  takeInAnyOrder_rel (fun s t => (t.fan f).setpoint = (s.fan f).setpoint) (fun _ => rfl) (fun _ _ _ a b => b.trans a)
    (fun _ => rfl) refreshIncident (fun g s => (refreshIncident_refreshed g s).setpoints f) allFans s

theorem refreshIncidentAll_tracks (f : Fin 4) (s : State) : Tracks f True s (takeInAnyOrder allFans refreshIncident s) :=
  .takeInAnyOrder _ (fun g s => (setModeTarget_tracks f g (incidentTarget s g) s).mono fun _ => trivial) s

/-! ### The engagement as a whole -/

/-- What the steps behind the record come to (R136 steps 4 to 6, R140 steps 3 and 5). -/
theorem Recorded.engaged {n tag : Nat} {cause : ModeCause} {s r t : State} (h : Recorded n cause tag s r) (frame : DoorFrame r t)
    (targets : ∀ f, (t.fan f).modeTarget = incidentTarget r f ∧ ComposedAt t f)
    (setpoints : s.modes.mode ≠ .incident → ∀ f, (t.fan f).setpoint = none ∧ (t.fan f).creditWait = false ∧
      (Unserved s f → (s.fan f).creditWait = true → (t.fan f).state = .awaitGrant → t.arbiter.waiting[f]'f.isLt = true))
    (locks : LockoutOk t)
    (cleared : ∀ f, StaysLocked f r r → (engagedEntry r f).isSome = true → Cleared f (r.ctl.pressFan = some f) r t)
    (policies : ∀ d, PolicyChanged d (engagedPolicy (if s.modes.mode = .incident then s.modes.record else none) d)
      ((s.settings.scenario n).doorPolicy d) s t) : Engaged n cause tag s t where
  frame := h.modeFrame frame
  reported := by
    rw [FirstReport, ← h.reports]
    exact frame.queued
  mode := by
    rw [frame.modes, h.modes]
    exact ⟨rfl, rfl, rfl, rfl, rfl⟩
  frozen := by
    rw [frame.modes]
    exact h.frozen
  armed := by
    rw [frame.modes, h.modes]
    rfl
  delays f := by
    have delay := h.delay f
    rw [← frame.modes] at delay
    refine delay.trans ?_
    cases (s.settings.scenario n).fans.find? fun e => e.fan == f <;> rfl
  targets f := by
    rw [frame.modes]
    exact ⟨(targets f).1.trans (h.wish f), (targets f).2⟩
  setpoints := setpoints
  lockouts f entered := by
    have entry : (engagedEntry r f).isSome = true := by
      obtain ⟨e, mem, he⟩ := entered
      rw [h.entry, List.find?_isSome]
      exact ⟨e, mem, by simp [he]⟩
    have fan := h.fan f
    refine ⟨locks ?_ f ?_, fun state free credit => ?_⟩
    · rw [frame.modes, h.modes]
      rfl
    · rw [engagedEntry, frame.modes]
      exact entry
    · have locked : StaysLocked f r r := ⟨by rw [fan]; exact state, free.of_arbiter h.arbiter, by rw [fan]; exact credit, rfl, rfl,
        rfl, rfl⟩
      have done := cleared f locked entry
      rw [h.ctl] at done
      exact done.lockoutCleared h.incident (by rw [fan]) (by rw [fan]) h.stop h.queued
  doors d := by
    have policy := policies d
    refine ⟨policy.kept, fun differ => ?_, fun differ new active => ?_, fun differ new => ?_, fun differ old => ?_,
      fun differ old => ?_⟩
    · obtain ⟨u, ⟨store, channels, _⟩, removed, _, applied⟩ := policy.changed differ
      exact ⟨u, _, store, channels, removed, applyPolicy_applied _ d u, applied⟩
    · rw [new] at policy differ
      exact policy.opens differ active
    · rw [new] at policy differ
      exact policy.unlocks differ
    · rw [old] at policy differ
      exact policy.releases differ
    · rw [old] at policy differ
      exact policy.relocks differ

theorem engageAgain_engaged (n : Nat) (cause : ModeCause) (tag : Nat) {s : State} (h : s.modes.mode = .incident) :
    Engaged n cause tag s (engageAgain n cause tag s) := by
  have recorded := engageRecord_recorded n cause tag h
  have steps := changePolicies_steps s.modes.record (engageRecord n cause tag s).modes.record (engageRecord n cause tag s)
  have policies := changePolicies_changed s.modes.record (engageRecord n cause tag s).modes.record (engageRecord n cause tag s)
  have refreshes := refreshIncidentAll_frame (changePolicies s.modes.record (engageRecord n cause tag s).modes.record
    (engageRecord n cause tag s))
  have clears := clearIfEnteredAll_steady (engagedAgain n cause tag s)
  have fans := FanFrame.takeInAnyOrder clearIfEntered (fun f s => (clearIfEntered_event f s).mild.frame) allFans
    (engagedAgain n cause tag s)
  refine recorded.engaged ((steps.steady.frame.trans refreshes.doorFrame).trans clears.frame)
    (fun f => ⟨?_, clears.composed f (refreshIncidentAll_composed ..)⟩) (absurd h) (clearIfEnteredAll_lockoutOk _)
    (fun f locked entry => ?_) fun d => ?_
  · refine (clears.wishes f).1.trans ((refreshIncidentAll_from _ f).trans ?_)
    exact incidentTarget_congr (.of_eq steps.steady.frame.modes) (steps.steady.wishes f).1
  · have before := (steps.tracks f).keeps (staysLocked_invariant f _ _) locked
    have still := (refreshIncidentAll_tracks f _).keeps (staysLocked_invariant f (engageRecord n cause tag s) True) before
    have done := clearIfEnteredAll_cleared still (refreshes.modes.trans steps.steady.frame.modes)
      (steps.steady.frame.queued.trans refreshes.queued) entry
    exact done.later .refl (.refl _) False.elim
  · rw [if_pos h]
    exact (policies d).within rfl rfl rfl recorded.queued ((fans.door d).trans (refreshes.door d))
      (refreshes.queued.trans fans.queued)

/-- The state in which every fan has been cleared and has joined at a first engagement. -/
def joined (n : Nat) (cause : ModeCause) (tag : Nat) (s : State) : State :=
  takeInAnyOrder allFans joinInIncident (takeInAnyOrder allFans clearIfEntered (engagedFirst n cause tag s))

theorem engageFirst_engaged (n : Nat) (cause : ModeCause) (tag : Nat) {s : State} (h : s.modes.mode ≠ .incident) :
    Engaged n cause tag s (engageFirst n cause tag s) := by
  have recorded := firstRecorded_recorded n cause tag h
  have refreshes : FanFrame (firstRecorded n cause tag s) (engagedFirst n cause tag s) := refreshIncidentAll_frame _
  have clears := clearIfEnteredAll_steady (engagedFirst n cause tag s)
  have joins := joinInIncidentAll_steady (takeInAnyOrder allFans clearIfEntered (engagedFirst n cause tag s))
  have fans : FanFrame (engagedFirst n cause tag s) (joined n cause tag s) :=
    (FanFrame.takeInAnyOrder clearIfEntered (fun f s => (clearIfEntered_event f s).mild.frame) allFans _).trans
      (FanFrame.takeInAnyOrder joinInIncident (fun f s => (joinOnCredit_event f s).mild.frame) allFans _)
  have record : (joined n cause tag s).modes.record = some (s.settings.scenario n) := by
    rw [fans.modes, refreshes.modes, recorded.record]
  have steps := changePolicies_steps none (joined n cause tag s).modes.record (joined n cause tag s)
  have policies := changePolicies_changed none (joined n cause tag s).modes.record (joined n cause tag s)
  have behind : Steady (engagedFirst n cause tag s) (engageFirst n cause tag s) := (clears.trans joins).trans steps.steady
  have incident : (firstRecorded n cause tag s).incident = true := recorded.incident
  refine recorded.engaged (refreshes.doorFrame.trans behind.frame)
    (fun f => ⟨(behind.wishes f).1.trans (refreshIncidentAll_from _ f), behind.composed f (refreshIncidentAll_composed ..)⟩)
    (fun _ f => ⟨?_, ?_⟩) ((clearIfEnteredAll_lockoutOk _).of_steady (joins.trans steps.steady)) (fun f locked entry => ?_)
    fun d => ?_
  · exact (behind.wishes f).2.trans ((refreshIncidentAll_setpoint _ f).trans
      (congrArg Fan.setpoint (firstRecorded_fan n cause tag s f)))
  · have stands : (takeInAnyOrder allFans clearIfEntered (engagedFirst n cause tag s)).incident = true :=
      ((FanFrame.takeInAnyOrder clearIfEntered (fun f s => (clearIfEntered_event f s).mild.frame) allFans _).incident.trans
        refreshes.incident).trans incident
    obtain ⟨joined, seated⟩ := joinInIncidentAll_joined (f := f) stands
    have credit := ((steps.tracks f).keeps (noCreditWait_invariant f _) joined).2
    refine ⟨credit, fun free waits awaits => ?_⟩
    have seat : Seat False f (firstRecorded n cause tag s) := by
      refine ⟨fun k => absurd k (not_or.mpr ?_), fun _ => .inr (by rw [firstRecorded_fan]; exact waits), nofun, nofun⟩
      rw [recorded.arbiter]
      exact ⟨free.1, free.2.2⟩
    have refreshed := (refreshIncidentAll_tracks f _).keeps (seat_invariant False f True) seat
    have last := (steps.tracks f).keeps (seat_invariant False f _) (seated (clearIfEnteredAll_seat refreshed))
    exact (last.awaits awaits).resolve_right fun k => absurd (credit.symm.trans k) nofun
  · have still := (refreshIncidentAll_tracks f _).keeps (staysLocked_invariant f (firstRecorded n cause tag s) True) locked
    have done := clearIfEnteredAll_cleared still refreshes.modes refreshes.queued entry
    have later := done.later (own := False) (joinInIncidentAll_tracks (done.noCreditWait incident)) joins.frame.queued id
    refine later.later ((steps.tracks f).mono fun k => ?_) steps.steady.frame.queued False.elim
    rwa [fans.ctl, refreshes.ctl] at k
  · rw [if_neg h]
    have policy := policies d
    rw [record] at policy
    refine policy.within ((fans.door d).trans ((refreshes.door d).trans (recorded.door d)))
      (fans.store.trans (refreshes.store.trans recorded.store))
      (fans.channels.trans (refreshes.channels.trans recorded.channels))
      (recorded.queued.trans (refreshes.queued.trans fans.queued)) ?_ ?_
    all_goals rw [← record]
    · rfl
    · exact .refl _

end Sys2Proof.Machine
end

section
/-! INCIDENT left (R141), and the requests that engage (R139 to R144). -/

namespace Sys2Proof.Machine

/-! ### INCIDENT left (R141) -/

/-- The mode controller in AUTO, reported, nothing done behind it yet (R141 steps 1 and 2). -/
def incidentEnded (cause : ModeCause) (tag : Nat) (s : State) : State :=
  reportMode cause tag (s.withModes { s.modes with
    mode := .auto, engaged := 0, record := none, delays := Vector.replicate 4 .absent, frozen := none })

theorem restartVerify_fan (s : State) (f : Fin 4) : (takeEach allFans restartVerify s).fan f =
    if (s.fan f).state = .running then { s.fan f with verifyTimer := some 0 } else s.fan f := by
  refine takeEachFan_fan (w := fun x => if x.state = .running then { x with verifyTimer := some 0 } else x)
    (fun g u => ?_) (fun g h u hg => ?_) s f <;> unfold restartVerify <;> split
  · exact State.withFan_fan_self ..
  · rfl
  · exact u.withFan_fan_of_ne _ hg
  · rfl

theorem restartVerify_credits (s : State) (f : Fin 4) :
    ((takeEach allFans restartVerify s).fan f).credits = (s.fan f).credits := by
  rw [restartVerify_fan]
  split <;> rfl

theorem restartVerify_creditWait (s : State) (f : Fin 4) :
    ((takeEach allFans restartVerify s).fan f).creditWait = (s.fan f).creditWait := by
  rw [restartVerify_fan]
  split <;> rfl

theorem restartVerify_state (s : State) (f : Fin 4) :
    ((takeEach allFans restartVerify s).fan f).state = (s.fan f).state := by
  rw [restartVerify_fan]
  split <;> rfl

theorem restartVerify_verifyTimer {s : State} {f : Fin 4} (h : (s.fan f).state = .running) :
    ((takeEach allFans restartVerify s).fan f).verifyTimer = some 0 := by
  rw [restartVerify_fan, if_pos h]

theorem restartVerify_arbiter (s : State) : (takeEach allFans restartVerify s).arbiter = s.arbiter :=
  takeEach_rel (fun s t => t.arbiter = s.arbiter) (fun _ => rfl) (fun _ _ _ a b => b.trans a) restartVerify
    (fun f s => by unfold restartVerify; split <;> rfl) allFans s

/-- No fan waits for a grant without a credit (R90, R141 step 5). -/
def Creditable (f : Fin 4) (s : State) : Prop := s.arbiter.waiting[f]'f.isLt = true → (s.fan f).credits ≠ 0

theorem waitForCredit_beside {f g : Fin 4} (s : State) (hg : f ≠ g) : Beside f s (waitForCredit g s) := by
  unfold waitForCredit
  split
  · exact ((At.withWaiting g false s).trans (.withFan (x := { s.fan g with creditWait := true }) {})).beside hg
  · exact .refl f s

theorem waitForCredit_creditable (f : Fin 4) (s : State) : Creditable f (waitForCredit f s) := by
  unfold waitForCredit
  split
  · exact fun k => by simp at k
  · next other => exact fun k none => other ⟨k, none⟩

theorem waitForCreditAll_creditable (f : Fin 4) (s : State) : Creditable f (takeEach allFans waitForCredit s) := by
  refine takeEach_all (fun _ => True) (fun g u => Creditable g u) (fun _ _ => id) (fun g u _ => waitForCredit_creditable g u)
    (fun g e u _ k => ?_) allFans trivial f (mem_allFans f)
  by_cases he : g = e
  · subst he
    exact waitForCredit_creditable g u
  · have beside := waitForCredit_beside u he
    intro waits
    rw [beside.fan]
    exact k (beside.waiting.symm.trans waits)

/-- A waiting fan that has no credit keeps a place: under CREDIT_WAIT. -/
theorem waitForCreditAll_seat {f : Fin 4} {s : State} (h : Seat True f s) : Seat True f (takeEach allFans waitForCredit s) := by
  refine takeEach_inv (Seat True f) waitForCredit (fun g u k => ?_) allFans s h
  by_cases hg : f = g
  · subst hg
    unfold waitForCredit
    split
    · next waits =>
      obtain ⟨state, _⟩ := k.waits trivial waits.1
      refine ⟨fun serves => ?_, fun _ => .inr (by rw [State.withFan_fan_self]), fun _ w => ?_, fun _ _ => ?_⟩
      · exact absurd (state.symm.trans (k.serves serves)) nofun
      · simp at w
      · rw [State.withFan_fan_self]
        exact state
    · exact k
  · exact (seat_invariant True f False).beside u _ (waitForCredit_beside u hg) k

theorem restartVerifyAll_creditable {f : Fin 4} {s : State} (h : Creditable f s) :
    Creditable f (takeEach allFans restartVerify s) := by
  unfold Creditable
  rwa [restartVerify_arbiter, restartVerify_credits]

theorem restartVerifyAll_seat {f : Fin 4} {s : State} (h : Seat True f s) : Seat True f (takeEach allFans restartVerify s) :=
  h.of_same (restartVerify_arbiter s) (restartVerify_creditWait s f) (.inl (restartVerify_state s f))

theorem refreshAutoAll_tracks (f : Fin 4) (s : State) : Tracks f True s (takeInAnyOrder allFans refreshAuto s) := by
  refine .takeInAnyOrder _ (fun g s => ?_) s
  unfold refreshAuto
  split
  · exact (setModeTarget_tracks f g _ s).mono fun _ => trivial
  · exact .refl

theorem ArbiterOk.seat {s : State} (h : ArbiterOk s) (f : Fin 4) : Seat True f s :=
  ⟨fun k => k.elim (h.holdersStart f) fun k => (h.suspendedStart f k).1, h.awaits f, fun _ => h.waitingAwait f,
    fun _ => h.creditWaitAwait f⟩

/-- The fans behind the removal of the policies: at their AUTO targets, judged afresh, and none waiting without a credit. -/
theorem leaveIncident_left (cause : ModeCause) (tag : Nat) (s : State) : LeftIncident cause tag s (leaveIncident cause tag s) := by
  have steps : DoorSteps (incidentEnded cause tag s) (incidentLeft cause tag s) := changePolicies_steps ..
  have refreshes := refreshAutoAll_frame (incidentLeft cause tag s)
  have ends := leavingEnds_steady (takeInAnyOrder allFans refreshAuto (incidentLeft cause tag s))
  have fans := (FanFrame.takeEach waitForCredit (fun f s => (waitForCredit_event f s).mild.frame) allFans
      (takeInAnyOrder allFans refreshAuto (incidentLeft cause tag s))).trans
    (FanFrame.takeEach restartVerify (fun f s => (restartVerify_event f s).mild.frame) allFans _)
  have mode : (incidentLeft cause tag s).modes.mode = .auto := by rw [incidentLeft_modes]
  have frame : DoorFrame (incidentEnded cause tag s) (leaveIncident cause tag s) :=
    (steps.steady.frame.trans refreshes.doorFrame).trans ends.frame
  have waits (f : Fin 4) : Creditable f (leaveIncident cause tag s) :=
    restartVerifyAll_creditable (waitForCreditAll_creditable f (takeInAnyOrder allFans refreshAuto (incidentLeft cause tag s)))
  refine ⟨⟨?_, (Queued.arrive ..).trans frame.queued⟩, frame.queued, frame.modes, fun f => ⟨?_, ?_⟩, fun f running => ?_, waits,
    fun arbiter f awaits => ?_, fun d => ?_⟩
  · have same := frame.same
    rw [frame.modes]
    exact same
  · have wish := (ends.wishes f).1.trans (refreshAutoAll_modeTarget mode f)
    rw [← autoTarget_eq_autoWish]
    exact wish.trans (autoTarget_congr ends.frame.store.symm (congrArg Demand.stage ends.frame.demand.symm) f)
  · exact ends.composed f (refreshAutoAll_composed mode f)
  · rw [leaveIncident_eq] at running ⊢
    exact restartVerify_verifyTimer ((restartVerify_state ..).symm.trans running)
  · have seat : Seat True f (leaveIncident cause tag s) := by
      have left := (steps.tracks f).keeps (seat_invariant True f _) (by
        obtain ⟨serves, awaits, waits, credit⟩ := arbiter.seat f
        exact ⟨serves, awaits, waits, credit⟩)
      exact restartVerifyAll_seat (waitForCreditAll_seat ((refreshAutoAll_tracks f _).keeps (seat_invariant True f True) left))
    obtain waiting | credit := seat.awaits awaits
    · exact .inl ⟨waiting, waits f waiting, (seat.waits trivial waiting).2⟩
    · refine .inr ⟨Bool.eq_false_iff.mpr fun waiting => ?_, credit⟩
      exact absurd (credit.symm.trans (seat.waits trivial waiting).2) nofun
  · have policy := changePolicies_changed s.modes.record none (incidentEnded cause tag s) d
    have moved : PolicyChanged d (engagedPolicy s.modes.record d) .keep s (leaveIncident cause tag s) :=
      policy.within rfl rfl rfl (.arrive ..) ((fans.door d).trans (refreshes.door d)) (refreshes.queued.trans fans.queued)
    exact moved.removed

/-! ### The requests (R136, R139 to R144) -/

theorem State.incident_iff {s : State} : s.incident = true ↔ s.modes.mode = .incident := beq_iff_eq

theorem engageScenario_engaged {n : Nat} (h : 1 ≤ n) (cause : ModeCause) (tag : Nat) (s : State) :
    Engaged n cause tag s (engageScenario n cause tag s) := by
  rw [engageScenario, if_neg (Nat.one_le_iff_ne_zero.mp h)]
  split
  · next engaged => exact engageAgain_engaged _ _ _ (State.incident_iff.mp engaged)
  · next out => exact engageFirst_engaged _ _ _ fun k => out (State.incident_iff.mpr k)

/-- Scenario 0 outside INCIDENT changes nothing (R141). -/
theorem engageScenario_zero_of_out {s : State} (h : s.modes.mode ≠ .incident) (cause : ModeCause) (tag : Nat) :
    engageScenario 0 cause tag s = s := by
  rw [engageScenario, if_pos rfl, if_neg fun k => h (State.incident_iff.mp k)]

theorem engageScenario_zero_of_incident {s : State} (h : s.modes.mode = .incident) (cause : ModeCause) (tag : Nat) :
    engageScenario 0 cause tag s = leaveIncident cause tag s := by
  rw [engageScenario, if_pos rfl, if_pos (State.incident_iff.mpr h)]

/-- ENGAGE with a tag other than 0 that no ARM gave: the state it leaves (R144). -/
def engageMissed (tag : Nat) (s : State) : State :=
  report 0 (.engageMissed tag ((s.modes.armed.map (·.tag)).getD 0) ((s.modes.armed.map (·.scenario)).getD 0)) s

theorem engageNowTaken_of_le {b : Byte} (h : b.toNat ≤ 15) (s : State) :
    engageNowTaken [b] s = done [] (engageScenario b.toNat .engageNow 0 s) := if_neg (Nat.not_lt.mpr h)

theorem engageTaken_zero (s : State) : engageTaken [0] s = done [] (engageScenario 0 .engage 0 s) := rfl

theorem armedMatch_of_tag {s : State} {a : Armed} {tag : Nat} (armed : s.modes.armed = some a) (h : a.tag = tag) :
    armedMatch s tag = some a := by
  rw [armedMatch, armed, Option.filter_some, if_pos (beq_iff_eq.mpr h)]

theorem armedMatch_none {s : State} {tag : Nat} (h : ∀ a, s.modes.armed = some a → a.tag ≠ tag) : armedMatch s tag = none :=
  Option.filter_eq_none_iff.mpr fun a armed k => h a armed (beq_iff_eq.mp k)

theorem engageTaken_matched {b : Byte} {s : State} {a : Armed} (hb : b ≠ 0) (armed : s.modes.armed = some a)
    (h : a.tag = b.toNat) : engageTaken [b] s = done [] (engageScenario a.scenario .engage b.toNat s) := by
  have nonzero : b.toNat ≠ 0 := fun k => hb (BitVec.eq_of_toNat_eq k)
  simp only [engageTaken, withByte, if_neg nonzero, armedMatch_of_tag armed h]

theorem engageTaken_missed {b : Byte} {s : State} (hb : b ≠ 0) (h : ∀ a, s.modes.armed = some a → a.tag ≠ b.toNat) :
    engageTaken [b] s = refuse .refused (engageMissed b.toNat s) := by
  have nonzero : b.toNat ≠ 0 := fun k => hb (BitVec.eq_of_toNat_eq k)
  simp only [engageTaken, withByte, if_neg nonzero, armedMatch_none h]
  rfl

/-- Addressed, a request that is taken as a broadcast too is a request like any other (R158). -/
theorem broadcastRequest_answered {kind dest : Byte} {payload data : List Byte} {h : Handler} {code : ResultCode} {s t : State}
    (hr : Ready s dest) (ht : h payload (dispatching s) = (t, { code := code, data := data })) :
    broadcastRequest kind dest payload h s = answered kind dest code data t := by
  rw [← request_answered hr ht]
  simp only [broadcastRequest, request, frameArrives, if_neg hr.2.1]

/-- A broadcast request acts with no reply where the controller has a station, and not at all where it has none (R158). -/
theorem broadcastRequest_taken {kind : Byte} {payload : List Byte} {h : Handler} {s : State} (hq : Quiet s) :
    broadcastRequest kind broadcast payload h s =
      if s.line.station.isSome then (h payload (dispatching s)).1 else dispatching s := by
  simp [broadcastRequest, frameArrives, takeFrame, hq.2.2.2, hq.2.1, linkAlive_of_quiet hq]
  rfl

theorem broadcastRequest_acts {kind : Byte} {payload : List Byte} {h : Handler} {s t : State} {r : Reply} (hq : Quiet s)
    (station : s.line.station ≠ none) (ht : h payload (dispatching s) = (t, r)) :
    broadcastRequest kind broadcast payload h s = t := by
  rw [broadcastRequest_taken hq, if_pos (Option.isSome_iff_ne_none.mpr station), ht]

theorem engageTaken_zero_of_out {s : State} (h : s.modes.mode ≠ .incident) :
    engageTaken [0] s = (s, { code := .ok, data := [] }) :=
  (engageTaken_zero s).trans (congrArg (done []) (engageScenario_zero_of_out h ..))

theorem engageTaken_zero_of_incident {s : State} (h : s.modes.mode = .incident) :
    engageTaken [0] s = (leaveIncident .engage 0 s, { code := .ok, data := [] }) :=
  (engageTaken_zero s).trans (congrArg (done []) (engageScenario_zero_of_incident h ..))

theorem engageNowTaken_of_large {b : Byte} (h : 15 < b.toNat) (s : State) :
    engageNowTaken [b] s = (s, { code := .outOfRange, data := [] }) := if_pos h

theorem engageNowTaken_zero_of_out {s : State} (h : s.modes.mode ≠ .incident) :
    engageNowTaken [0] s = (s, { code := .ok, data := [] }) :=
  (engageNowTaken_of_le (by decide) s).trans (congrArg (done []) (engageScenario_zero_of_out h ..))

theorem engageNowTaken_zero_of_incident {s : State} (h : s.modes.mode = .incident) :
    engageNowTaken [0] s = (leaveIncident .engageNow 0 s, { code := .ok, data := [] }) :=
  (engageNowTaken_of_le (by decide) s).trans (congrArg (done []) (engageScenario_zero_of_incident h ..))

theorem exec_engageNow_answered {dest b : Byte} {data : List Byte} {code : ResultCode} {s t : State} (hr : Ready s dest)
    (ht : engageNowTaken [b] (dispatching s) = (t, { code := code, data := data })) :
    exec (.engageNow dest [b]) s = .next (answered 0x43 dest code data t) :=
  congrArg Host.Outcome.next (request_answered hr ht)

theorem exec_engage_answered {dest b : Byte} {data : List Byte} {code : ResultCode} {s t : State} (hr : Ready s dest)
    (ht : engageTaken [b] (dispatching s) = (t, { code := code, data := data })) :
    exec (.engage dest [b]) s = .next (answered 0x42 dest code data t) :=
  congrArg Host.Outcome.next (broadcastRequest_answered hr ht)

theorem exec_engage_acts {b : Byte} {s t : State} {r : Reply} (hq : Quiet s) (station : s.line.station ≠ none)
    (ht : engageTaken [b] (dispatching s) = (t, r)) : exec (.engage broadcast [b]) s = .next t :=
  congrArg Host.Outcome.next (broadcastRequest_acts hq station ht)

/-- Settles O41: what an engagement and a leaving do is said of the state of the dispatch, and the frames bring it there. -/
theorem engagementsAreTaken : Obligations.EngagementsAreTaken := by
  unfold Obligations.EngagementsAreTaken
  intro s dest b hq s' out
  refine ⟨fun ha => ?_, fun station => ?_, fun station => ?_⟩
  · have hr : Ready s dest := ⟨hq, ha⟩
    refine ⟨fun h => ?_, fun hb out => ?_, fun hb inside => ?_, fun low high => ?_, fun hb out => ?_, fun hb inside => ?_,
      fun a hb armed tag legal => ?_, fun hb other => ?_⟩
    · exact exec_engageNow_answered hr (engageNowTaken_of_large h s')
    · subst hb
      exact exec_engageNow_answered hr (engageNowTaken_zero_of_out out)
    · subst hb
      exact ⟨_, exec_engageNow_answered hr (engageNowTaken_zero_of_incident (not_not.mp inside)), leaveIncident_left ..⟩
    · exact ⟨_, exec_engageNow_answered hr (engageNowTaken_of_le high s'), engageScenario_engaged low ..⟩
    · subst hb
      exact exec_engage_answered hr (engageTaken_zero_of_out out)
    · subst hb
      exact ⟨_, exec_engage_answered hr (engageTaken_zero_of_incident (not_not.mp inside)), leaveIncident_left ..⟩
    · exact ⟨_, exec_engage_answered hr (engageTaken_matched hb armed tag),
        engageScenario_engaged legal ..⟩
    · exact exec_engage_answered hr (engageTaken_missed hb other)
  · refine ⟨fun hb out => ?_, fun hb inside => ?_, fun a hb armed tag legal => ?_, fun hb other => ?_⟩
    · subst hb
      exact exec_engage_acts hq station (engageTaken_zero_of_out out)
    · subst hb
      exact ⟨_, exec_engage_acts hq station (engageTaken_zero_of_incident (not_not.mp inside)), leaveIncident_left ..⟩
    · exact ⟨_, exec_engage_acts hq station (engageTaken_matched hb armed tag),
        engageScenario_engaged legal ..⟩
    · exact exec_engage_acts hq station (engageTaken_missed hb other)
  · exact congrArg Host.Outcome.next ((broadcastRequest_taken hq).trans (if_neg (by simp [station])))

end Sys2Proof.Machine
end
